-- ==== Sys2Proof/Word.lean ====
section
/-! DEFINITION. The byte, the numbered things of the part (lanes, points, blocks, rows, records) and the plainest
arithmetic on them. -/

namespace Sys2Proof

/-- One byte of a frame or a message (TABLE 11-2). -/
abbrev Byte := BitVec 8

/-- A text value: its ASCII characters in place order (00_scope, section 5.3). -/
abbrev Text := List Byte

/-- Lane n of the 12 entry lanes stands at place n - 1 (00_scope, section 5.2). -/
abbrev Lane := Fin 12

/-- Direction point p of the 14 points stands at place p - 1 (R148). -/
abbrev Point := Fin 14

/-- Yard block b of the 32 blocks stands at place b - 1 (R110). -/
abbrev BlockNo := Fin 32

/-- Staging row r of the 24 rows stands at place r - 1 (R134). -/
abbrev RowNo := Fin 24

/-- A record place 0–47 of the visit store (R1). -/
abbrev RecNo := Fin 48

/-- The highest value of a 32-bit number: where counters and the gate clock saturate (R168, R173). -/
def max32 : Nat := 4294967295

/-- The highest value of a 16-bit number: where fragment counts, DSF and waited seconds saturate. -/
def max16 : Nat := 65535

/-- One more, staying at the cap once it is reached. -/
def satInc (cap n : Nat) : Nat := min (n + 1) cap

/-- The credit of one truck (00_scope, section 5.1; R110). -/
def truckCredit : Nat := 57600

/-- The place of a thing numbered from 1, when the number is in its range. -/
def place? (k n : Nat) : Option (Fin k) :=
  if h : 1 ≤ n ∧ n ≤ k then some ⟨n - 1, by omega⟩ else none

/-- The number, counted from 1, of the thing at a place. -/
def numberOf (i : Fin k) : Nat := i.val + 1

/-- Lane n's display point is point n (00_scope, section 5.2). -/
def lanePoint (l : Lane) : Point := ⟨l.val, by omega⟩

/-- The lane whose display a point is: points 1–12 are lane displays. -/
def pointLane? (p : Point) : Option Lane :=
  if h : p.val < 12 then some ⟨p.val, h⟩ else none

/-- Point 13, the staging board. -/
def stagingBoard : Point := ⟨12, by omega⟩

/-- Point 14, the inspection board. -/
def inspectionBoard : Point := ⟨13, by omega⟩

end Sys2Proof
end

