-- ==== Sys2Proof/Syntax.lean ====
section
/-! DEFINITION. The commands of the block: one constructor per row of spec/opcode_table.json, in the table's order.
Events that come from outside carry what comes with them (a frame at a port, the strap levels); events inside the
part carry the number of the thing concerned, or nothing where the state names it. -/

namespace Sys2Proof

/-- The two Ethernet ports (chapter 11). -/
inductive Port where
  | lane
  | uplink
  deriving DecidableEq, Repr

/-- One Ethernet frame as a MAC receives it or sends it (R180). `fcsGood` is the MAC's judgement of the frame check
sequence; the payload begins after the type value and ends before the frame check sequence. -/
structure Frame where
  dst : BitVec 48
  src : BitVec 48
  etherType : BitVec 16
  payload : List Byte
  fcsGood : Bool
  deriving DecidableEq, Repr

/-- The length of the whole frame: two addresses, the type value, the payload and the 4-byte check sequence (R180). -/
def Frame.length (f : Frame) : Nat := f.payload.length + 18

/-- The commands. Each is one whole step of the part. -/
inductive Instr where
  /-- COLD_RESET (R179). -/
  | coldReset (unitAddr : Byte) (typeHigh : Bool)
  /-- COLD_SWEEP_COMPLETE (R59). -/
  | coldSweepComplete
  /-- SECOND_EVENT (R168). -/
  | secondEvent
  /-- IDLE_COUNTDOWN_EXPIRY (R15). -/
  | idleCountdownExpiry (lane : Nat)
  /-- RESEND_COUNTDOWN_EXPIRY (R153). -/
  | resendCountdownExpiry (point : Nat)
  /-- BARRIER_COUNTDOWN_EXPIRY (R161). -/
  | barrierCountdownExpiry (lane : Nat)
  /-- BLOCK_IDLE_COUNTDOWN_EXPIRY (R123). -/
  | blockIdleCountdownExpiry (block : Nat)
  /-- STAGING_LIMIT_TIMEOUT (R139). -/
  | stagingLimitTimeout (visit : Nat)
  /-- FRAME_DISCARD (R180). -/
  | frameDiscard (port : Port) (f : Frame)
  /-- MALFORMED_MESSAGE (R180). -/
  | malformedMessage (port : Port) (f : Frame)
  /-- PASS_THROUGH_FRAME (R183). -/
  | passThroughFrame (port : Port) (f : Frame)
  /-- LANE_REPORT (R181). -/
  | laneReport (f : Frame)
  /-- UPLINK_LANE_COMMAND (R182). -/
  | uplinkLaneCommand (f : Frame)
  /-- YARD_STATE (R116). -/
  | yardState (f : Frame)
  /-- MGMT_REQUEST (R165). -/
  | mgmtRequest (f : Frame)
  /-- PLATE_READ (R34). -/
  | plateRead
  /-- CONTAINER_READ (R38). -/
  | containerRead
  /-- CREDENTIAL_READ (R35). -/
  | credentialRead
  /-- BOOKING_ENTRY (R36). -/
  | bookingEntry
  /-- SEAL_READ (R39). -/
  | sealRead
  /-- DAMAGE_PANEL (R40). -/
  | damagePanel
  /-- SIGNAL (R16). -/
  | signal
  /-- SHOWN (R152). -/
  | shown
  /-- PASSED (R160). -/
  | passed
  /-- CHECK_START (R75). -/
  | checkStart
  /-- TABLE_STORE_GRANT (R49). -/
  | tableStoreGrant
  /-- BOOKING_LOOKUP (R50). -/
  | bookingLookup
  /-- INDEX_LOOKUP (R50). -/
  | indexLookup
  /-- CONFIRM (R51). -/
  | confirm
  /-- UPLINK_TRANSMIT_DONE (R185). -/
  | uplinkTransmitDone
  /-- LANE_TRANSMIT_DONE (R186). -/
  | laneTransmitDone
  /-- BAD_REQUEST (R166). -/
  | badRequest
  /-- STATION_WRITE (R29). -/
  | stationWrite
  /-- STATION_READ (R29). -/
  | stationRead
  /-- CODE_WRITE (R18). -/
  | codeWrite
  /-- CODE_READ (R18). -/
  | codeRead
  /-- WATCH_WRITE (R97). -/
  | watchWrite
  /-- WATCH_READ (R97). -/
  | watchRead
  /-- WINDOW_WRITE (R64). -/
  | windowWrite
  /-- WINDOW_DELETE (R65). -/
  | windowDelete
  /-- WINDOW_READ (R66). -/
  | windowRead
  /-- BLOCK_WRITE (R112). -/
  | blockWrite
  /-- BLOCK_TUNE (R113). -/
  | blockTune
  /-- BLOCK_DISABLE (R114). -/
  | blockDisable
  /-- BLOCK_READ (R115). -/
  | blockRead
  /-- BOOKING_WRITE (R53). -/
  | bookingWrite
  /-- BOOKING_CANCEL (R54). -/
  | bookingCancel
  /-- BOOKING_DELETE (R55). -/
  | bookingDelete
  /-- BOOKING_READ (R56). -/
  | bookingRead
  /-- PARAM_WRITE (R167). -/
  | paramWrite
  /-- PARAM_READ (R167). -/
  | paramRead
  /-- SET_PARTITION (R57). -/
  | setPartition
  /-- CLEAR_COMPLETE (R58). -/
  | clearComplete
  /-- TIME_SET (R169). -/
  | timeSet
  /-- LANE_OPEN (R21). -/
  | laneOpen
  /-- LANE_STOP (R22). -/
  | laneStop
  /-- LANE_FLUSH (R23). -/
  | laneFlush
  /-- VISIT_READ (R25). -/
  | visitRead
  /-- VISIT_RELEASE (R145). -/
  | visitRelease
  /-- VISIT_REJECT (R146). -/
  | visitReject
  /-- SEND_URGENT (R157). -/
  | sendUrgent
  /-- BARRIER_CLEAR (R162). -/
  | barrierClear
  /-- NOTICE_ACK (R172). -/
  | noticeAck
  /-- ALERT_READ (R19). -/
  | alertRead
  /-- COUNTERS_READ (R173). -/
  | countersRead
  /-- REPORT_HOLD (R176). -/
  | reportHold
  /-- REPORT_RESUME (R176). -/
  | reportResume
  /-- WARM_RESET (R178). -/
  | warmReset
  /-- IDENTIFY (R177). -/
  | identify
  /-- MANAGEMENT_ACCESS_COMPLETE (R49). -/
  | managementAccessComplete
  deriving DecidableEq, Repr

end Sys2Proof
end

