-- ==== Sys2Proof/Machine/State.lean ====
section
/-! DEFINITION. The state of the part as plain data: one record per block of TABLE 0-1, and the machine after reset.
Every field cites the rule or the table that names it; INVENTORY.md lists them with their reset values. -/

namespace Sys2Proof.Machine

open Sys2Proof

/-! ### Visits (chapters 1, 2, 5, 6) -/

/-- The states of a visit (TABLE 1-2, in its order). -/
inductive VisitState where
  | free | assembling | checking | directing | atBarrier | waitingInLane | staged | held | releasing | reporting
  deriving DecidableEq, Repr

/-- Why a visit closed (section 1.9). -/
inductive CloseReason where
  | code | idle | flush | laneStop
  deriving DecidableEq, Repr

/-- A container position of a truck (R33). -/
inductive Pos where
  | one | two
  deriving DecidableEq, Repr

/-- The marks of a visit, each present or absent (R6, TABLE 1-3). -/
structure Marks where
  gap : Bool := false
  overflow : Bool := false
  conflict : Bool := false
  plateConflict : Bool := false
  stopIssued : Bool := false
  unconfirmed : Bool := false
  deriving DecidableEq, Repr

/-- The six damage panels (R40). -/
inductive Panel where
  | front | rear | left | right | roof | doors
  deriving DecidableEq, Repr

/-- One value for each of the six panels, in panel order. -/
structure PerPanel (α : Type) where
  front : α
  rear : α
  left : α
  right : α
  roof : α
  doors : α
  deriving DecidableEq, Repr

/-- The kept plate with its kept confidence (R34). -/
structure Plate where
  text : Text
  confidence : Nat
  deriving DecidableEq, Repr

/-- The kept container of one position (R38). -/
structure Container where
  number : Text
  verified : Bool
  sizeClass : Nat
  confidence : Nat
  deriving DecidableEq, Repr

/-- One entry of a position's seal list (R39). -/
structure SealEntry where
  text : Text
  tamper : Bool
  deriving DecidableEq, Repr

/-- Seal verdicts (TABLE 6-1; TABLE 11-3 order). -/
inductive SealVerdict where
  | isMatch | extra | missing | mismatch | tamper | unchecked
  deriving DecidableEq, Repr

/-- Damage verdicts (TABLE 6-3; TABLE 11-3 order). -/
inductive DamageVerdict where
  | clean | note | survey | unscanned
  deriving DecidableEq, Repr

/-- What a visit keeps for one container position (TABLE 1-1). -/
structure PosData where
  container : Option Container := none
  seals : List SealEntry := []
  panels : PerPanel (Option Nat) := ⟨none, none, none, none, none, none⟩
  sealVerdict : Option SealVerdict := none
  damageScore : Option Nat := none
  damageVerdict : Option DamageVerdict := none
  deriving DecidableEq, Repr

/-- Watch actions from the weakest to the strongest (TABLE 6-5). -/
inductive WatchAction where
  | note | hold | stopNow
  deriving DecidableEq, Repr

/-- Watch timings (TABLE 6-5). -/
inductive WatchTiming where
  | onArrival | atClose
  deriving DecidableEq, Repr

/-- One entry of a visit's hit list (R100). -/
structure Hit where
  entry : Nat
  action : WatchAction
  timing : WatchTiming
  deriving DecidableEq, Repr

/-- The booking verdicts (TABLE 11-3 order; R79, R81). -/
inductive BookingVerdict where
  | onTime | early | late | tooEarly | expired | notFound | cancelled | alreadyUsed | plateMismatch
  | containerMismatch | lineHold | walkIn | walkInRefused
  deriving DecidableEq, Repr

/-- The outcome of a visit (R104). -/
inductive VisitOutcome where
  | admitted | turnedAway | trouble | inspection
  deriving DecidableEq, Repr

/-- The disposition of an admitted visit (R125). -/
inductive Disposition where
  | dispatched | staged | waitingInLane
  deriving DecidableEq, Repr

/-- How a visit finished (TABLE 1-1). -/
inductive FinalDisposition where
  | dispatched | turnedAway | trouble | inspection
  deriving DecidableEq, Repr

/-- One record of the visit store (TABLE 1-1). The pending direction of a visit stands in the direction engine's
list of pending directions, in issue order, and is read from there. -/
structure Visit where
  number : Nat := 0
  state : VisitState := .free
  lane : Lane := ⟨0, by decide⟩
  openedAt : Nat := 0
  closedAt : Option Nat := none
  closeReason : Option CloseReason := none
  fragments : Nat := 0
  discarded : Nat := 0
  marks : Marks := {}
  plate : Option Plate := none
  credential : Option Text := none
  reference : Option Nat := none
  pos1 : PosData := {}
  pos2 : PosData := {}
  codes : List Nat := []
  hitSet : List Nat := []
  hitList : List Hit := []
  strongest : Option WatchAction := none
  verdict : Option BookingVerdict := none
  bookingIndex : Option Nat := none
  outcome : Option VisitOutcome := none
  dispatch : Option BlockNo := none
  alternate : Option BlockNo := none
  disposition : Option Disposition := none
  row : Option RowNo := none
  finalDisposition : Option FinalDisposition := none
  deriving DecidableEq, Repr

/-- OPEN or CLOSED (R7). -/
inductive LaneState where
  | opened | closed
  deriving DecidableEq, Repr

/-- The assembler's record of one lane: its state, its open-visit pointer and its idle countdown, absent when
stopped (R7, R15). -/
structure LaneRecord where
  state : LaneState := .closed
  openVisit : Option RecNo := none
  idleCountdown : Option Nat := none
  deriving DecidableEq, Repr

/-- The visit assembler: visit store, free list (oldest freed first), next-visit-number register, lanes (R1–R3, R7). -/
structure Assembler where
  visits : Vector Visit 48
  freeList : List RecNo
  nextNumber : Nat
  lanes : Vector LaneRecord 12
  deriving DecidableEq, Repr

/-! ### Lane intake (chapters 1 and 2) -/

/-- What one lane report carries (TABLE 11-4). -/
inductive ReportBody where
  | plate (text : Text) (confidence : Nat)
  | container (position : Nat) (number : Text) (sizeClass confidence : Nat)
  | credential (text : Text)
  | booking (reference : Nat)
  | seal (position : Nat) (text : Text) (tamper : Bool) (confidence : Nat)
  | damage (position : Nat) (panel : Panel) (severity : Nat)
  | signal (code : Nat)
  | shown (sequence : Nat)
  | passed
  deriving DecidableEq, Repr

/-- A lane report: the sending station of its header and what it carries. The header's lane-or-point field is not
consulted (R28). -/
structure LaneReport where
  station : Nat
  body : ReportBody
  deriving DecidableEq, Repr

/-- The role of a station (R28). -/
inductive Role where
  | sensor | display | barrier
  deriving DecidableEq, Repr

/-- A valid entry of the station table (R28). -/
structure Station where
  number : Nat
  point : Point
  role : Role
  deriving DecidableEq, Repr

/-- The mode of a lane code (R16). -/
inductive CodeMode where
  | close | alert
  deriving DecidableEq, Repr

/-- One entry of the lane code table (R16). -/
structure CodeEntry where
  code : Nat := 0
  mode : CodeMode := .close
  endMarker : Bool := true
  deriving DecidableEq, Repr

/-- A full alert latch: the code and its latched-at time (R17). -/
structure Alert where
  code : Nat
  latchedAt : Nat
  deriving DecidableEq, Repr

/-- The lane intake: intake queue (oldest first), station table, lane code table, alert latches, overrun flag. -/
structure Intake where
  queue : List LaneReport
  stations : Vector (Option Station) 64
  codes : Vector CodeEntry 8
  latches : Vector (Option Alert) 12
  overrun : Bool
  deriving DecidableEq, Repr

/-! ### Watch table (chapter 6) -/

/-- The key kinds of watch entries (TABLE 11-3 order). -/
inductive KeyKind where
  | plate | container | seal | driver | booking
  deriving DecidableEq, Repr

/-- The key of a watch entry: a text with its compare length, or a reference with its mask width (TABLE 6-5). -/
inductive WatchKey where
  | text (value : Text) (compareLength : Nat)
  | reference (value : Nat) (maskWidth : Nat)
  deriving DecidableEq, Repr

/-- One entry of the watch table (TABLE 6-5). With the valid flag clear the other fields mean nothing. -/
structure WatchEntry where
  valid : Bool := false
  kind : KeyKind := .plate
  key : WatchKey := .text [] 0
  action : WatchAction := .note
  timing : WatchTiming := .onArrival
  predecessor : Option Nat := none
  deriving DecidableEq, Repr

/-! ### Table store (chapter 3) -/

/-- DROP or PICK (TABLE 3-2). -/
inductive LineDirection where
  | drop | pick
  deriving DecidableEq, Repr

/-- FULL or EMPTY (TABLE 3-2). -/
inductive Load where
  | full | empty
  deriving DecidableEq, Repr

/-- One line of a booking (TABLE 3-2). -/
structure BookingLine where
  direction : LineDirection
  container : Option Text
  sizeClass : Nat
  load : Load
  seals : List Text
  hold : Bool
  primary : BlockNo
  alternate : Option BlockNo
  deriving DecidableEq, Repr

/-- The states of a booking record that holds a booking; a FREE record is one the store does not list (R43). -/
inductive BookingState where
  | opened | arrived | cancelled
  deriving DecidableEq, Repr

/-- A booking record that is not FREE (TABLE 3-1). -/
structure Booking where
  state : BookingState
  tag : Nat
  period : Nat
  plate : Option Text
  line1 : BookingLine
  line2 : Option BookingLine
  deriving DecidableEq, Repr

/-- A valid entry of the container index (R47). -/
structure IndexEntry where
  key : Nat
  booking : Nat
  deriving DecidableEq, Repr

/-- The accesses of the check unit (TABLE 3-5, R50, R51). -/
inductive CheckAccess where
  /-- A booking lookup carrying a reference (R77). -/
  | lookupReference (reference : Nat)
  /-- A booking lookup carrying an index only, on the index path (R78). -/
  | lookupIndex (index : Nat)
  /-- An index lookup carrying a container number. -/
  | lookupContainer (number : Text)
  /-- A confirm access carrying the booking index and the tag. -/
  | confirm (index tag : Nat)
  deriving DecidableEq, Repr

/-- The text field of a management body before its tests: the length byte and the eleven places (TABLE 11-2). -/
structure RawText where
  length : Nat
  places : List Byte
  deriving DecidableEq, Repr

/-- A booking line of a BOOKING_WRITE body before the tests of R52. -/
structure RawLine where
  direction : Nat
  container : RawText
  sizeClass : Nat
  load : Nat
  sealCount : Nat
  seals : List RawText
  hold : Bool
  primary : Nat
  alternate : Nat
  deriving DecidableEq, Repr

/-- A BOOKING_WRITE before the tests of R52. -/
structure RawBooking where
  index : Nat
  tag : Nat
  period : Nat
  plate : RawText
  lineCount : Nat
  line1 : RawLine
  line2 : RawLine
  deriving DecidableEq, Repr

/-- The accesses of the management unit (TABLE 3-5). -/
inductive MgmtAccess where
  | bookingWrite (b : RawBooking)
  | bookingCancel (index : Nat) (tag : Option Nat)
  | bookingDelete (index : Nat) (tag : Option Nat)
  | bookingRead (index : Nat) (tag : Option Nat)
  /-- The clear of SET_PARTITION, with the new setting (R58). -/
  | clear (g : Nat)
  /-- The cold sweep (R59). -/
  | coldSweep
  deriving DecidableEq, Repr

/-- The access that holds the store. A check-unit access whose visit a warm reset abandoned is marked (R60). -/
inductive StoreAccess where
  | check (a : CheckAccess) (abandoned : Bool)
  | mgmt (a : MgmtAccess)
  deriving DecidableEq, Repr

/-- The table store: the partition setting, the booking records that are not FREE by booking index, the valid index
entries by entry number, each list with rising numbers, and the arbiter (R46–R49). -/
structure TableStore where
  partition : Nat
  bookings : List (Nat × Booking)
  index : List (Nat × IndexEntry)
  granted : Option StoreAccess
  checkWaiting : Option CheckAccess
  mgmtWaiting : Option MgmtAccess
  deriving DecidableEq, Repr

/-! ### Window ring (chapter 4) -/

/-- A window slot that is not EMPTY (TABLE 4-1). -/
structure Window where
  period : Nat
  start : Nat
  length : Nat
  capacity : Nat
  booked : Nat
  arrived : Nat
  allowance : Nat
  used : Nat
  early : Nat
  late : Nat
  deriving DecidableEq, Repr

/-- The derived window states (TABLE 4-2). -/
inductive WindowState where
  | empty | future | current | past | closed
  deriving DecidableEq, Repr

/-- The window ring: slots, arrival period, gap flag (R61, R67). -/
structure Ring where
  slots : Vector (Option Window) 96
  arrival : Nat
  gap : Bool
  deriving DecidableEq, Repr

/-- What a window reading says of a slot that holds the named period (R72). -/
structure SlotReading where
  early : Nat
  late : Nat
  derived : WindowState
  deriving DecidableEq, Repr

/-- A window reading (R72): the slot of the named period when it holds it, and the current slot's walk-in allowance
and walk-in used when the gap flag is clear. -/
structure Reading where
  arrival : Nat
  gap : Bool
  slot : Option SlotReading
  walkIn : Option (Nat × Nat)
  deriving DecidableEq, Repr

/-! ### Check unit (chapter 5) -/

/-- The stages of one check (TABLE 5-2). -/
inductive Stage where
  | lookup | window | judge | commit | handOff
  deriving DecidableEq, Repr

/-- The booking that a check holds: its index, its tag and the snapshot (TABLE 5-1). -/
structure HeldBooking where
  index : Nat
  tag : Nat
  snapshot : Booking
  deriving DecidableEq, Repr

/-- Line 1 or line 2 of the held booking. -/
inductive LineNo where
  | one | two
  deriving DecidableEq, Repr

/-- The check context (TABLE 5-1), with the position whose container the index path is searching (R78). -/
structure CheckContext where
  visit : RecNo
  stage : Stage := .lookup
  held : Option HeldBooking := none
  reading : Option Reading := none
  pair1 : Option LineNo := none
  pair2 : Option LineNo := none
  walkInBlock : Option BlockNo := none
  candidates : List Nat := []
  searching : Option Pos := none
  deriving DecidableEq, Repr

/-- The check unit: IDLE when there is no context, else CHECKING ONE VISIT; the check queue, oldest first (R75). -/
structure CheckUnit where
  queue : List RecNo
  context : Option CheckContext
  deriving DecidableEq, Repr

/-! ### Admission pacer (chapters 7 and 8) -/

/-- The parameter fields of a yard block (TABLE 7-1). -/
structure BlockParams where
  pdr : Nat := 0
  mdr : Nat := 0
  idr : Nat := 0
  ais : Nat := 0
  df : Nat := 0
  mrl : Nat := 0
  burst : Nat := 0
  idleReset : Nat := 0
  deriving DecidableEq, Repr

/-- A yard-block record (TABLE 7-1); `active` is its state, DISABLED when clear. -/
structure YardBlock where
  written : Bool := false
  active : Bool := false
  params : BlockParams := {}
  adr : Nat := 0
  credit : Nat := 0
  dsf : Nat := 0
  idleCountdown : Nat := 0
  feedbackLost : Bool := false
  deriving DecidableEq, Repr

/-- Where a staged truck waits (TABLE 8-1). -/
inductive StagedAt where
  | row (r : RowNo)
  | bay
  deriving DecidableEq, Repr

/-- A staged entry (TABLE 8-1). -/
structure StagedEntry where
  visit : Nat
  block : BlockNo
  alternate : Option BlockNo
  location : StagedAt
  waited : Nat
  timedOut : Bool
  released : Bool
  deriving DecidableEq, Repr

/-- The condition of a staging row with the visit number it holds (R134). -/
inductive RowState where
  | free
  | reserved (visit : Nat)
  | occupied (visit : Nat)
  deriving DecidableEq, Repr

/-- A lane-wait entry (R135). -/
structure LaneWaitEntry where
  visit : Nat
  block : BlockNo
  deriving DecidableEq, Repr

/-- The admission pacer: yard blocks, staged queue, staging row table, lane-wait list (oldest first). -/
structure Pacer where
  blocks : Vector YardBlock 32
  staged : List StagedEntry
  rows : Vector RowState 24
  laneWait : List LaneWaitEntry
  deriving DecidableEq, Repr

/-! ### Direction engine (chapter 9) -/

/-- The direction kinds (TABLE 11-3 order). -/
inductive DirectionKind where
  | proceed | stage | wait | troubleDesk | inspectionBay | turnBack | laneClosed | stop | text
  deriving DecidableEq, Repr

/-- A direction (TABLE 9-2). -/
structure Direction where
  kind : DirectionKind
  visit : Option Nat := none
  block : Option BlockNo := none
  row : Option RowNo := none
  template : Nat := 0
  deriving DecidableEq, Repr

/-- A descriptor of a point's queue: QUEUED, or IN_DISPLAY (R148). -/
structure Descriptor where
  direction : Direction
  inDisplay : Bool
  deriving DecidableEq, Repr

/-- The urgent slot (TABLE 9-1). -/
inductive UrgentSlot where
  | empty
  | ready (d : Direction)
  | inDisplay (d : Direction)
  deriving DecidableEq, Repr

/-- The state of one direction point (TABLE 9-1). -/
structure PointState where
  queue : List Descriptor := []
  urgent : UrgentSlot := .empty
  follow : Option Direction := none
  sequence : Nat := 0
  displaySequence : Option Nat := none
  resendCountdown : Option Nat := none
  resendCount : Nat := 0
  deriving DecidableEq, Repr

/-- A lane barrier: RAISING or DOWN, and its countdown, absent when stopped (R159). -/
structure Barrier where
  raising : Bool := false
  countdown : Option Nat := none
  deriving DecidableEq, Repr

/-- An entry of a departure queue (R158). -/
structure Departure where
  visit : RecNo
  done : Bool
  deriving DecidableEq, Repr

/-- A visit's pending direction: the visit's number, the point it is for, the direction (R149). -/
structure PendingDirection where
  visit : Nat
  point : Point
  direction : Direction
  deriving DecidableEq, Repr

/-- The direction engine: points, barriers, departure queues (oldest first), pending directions in issue order. -/
structure Engine where
  points : Vector PointState 14
  barriers : Vector Barrier 12
  departures : Vector (List Departure) 12
  pendings : List PendingDirection
  deriving DecidableEq, Repr

/-! ### Management unit (chapter 10) -/

/-- The management statuses (TABLE 0-7 order). -/
inductive Status where
  | ok | badRequest | badIndex | badRecord | inUse | notFound | wrongState | tableFull | indexPartial | lanesOpen
  deriving DecidableEq, Repr

/-- A request of the request queue: the header's tag and the body (R165). -/
structure Request where
  tag : Nat
  body : List Byte
  deriving DecidableEq, Repr

/-- The management unit: not taking requests because the cold sweep runs (R59), IDLE, EXECUTING a request that
waits for its table-store access (with its tag and kind), or EXECUTING until its response has been sent (R166). -/
inductive MgmtUnit where
  | sweeping
  | idle
  | accessing (tag kind : Nat)
  | responding
  deriving DecidableEq, Repr

/-- The parameters (TABLE 10-2), less the notice mask, which stands beside the notice flags. -/
structure Params where
  idleLimit : Nat := 30
  confidenceFloor : Nat := 40
  resendInterval : Nat := 3
  resendLimit : Nat := 3
  barrierLimit : Nat := 90
  stagingLimit : Nat := 1800
  stagingRows : Nat := 8
  walkInBlock : Nat := 0
  weights : PerPanel Nat := ⟨1, 1, 1, 1, 1, 1⟩
  noteThreshold : Nat := 20
  surveyThreshold : Nat := 60
  stopSeverity : Nat := 6
  mirror : Bool := true
  deriving DecidableEq, Repr

/-- The notice classes (TABLE 10-3 order). -/
inductive NoticeClass where
  | laneAlert | overrun | displayFault | barrierFault | feedbackLost | stagingLong | reportQueueHigh
  | visitStoreLow | heldVisit
  deriving DecidableEq, Repr

/-- A set of notice classes: the flags, or the mask. -/
structure NoticeSet where
  laneAlert : Bool := false
  overrun : Bool := false
  displayFault : Bool := false
  barrierFault : Bool := false
  feedbackLost : Bool := false
  stagingLong : Bool := false
  reportQueueHigh : Bool := false
  visitStoreLow : Bool := false
  heldVisit : Bool := false
  deriving DecidableEq, Repr

/-- Every notice class. -/
def NoticeSet.all : NoticeSet := ⟨true, true, true, true, true, true, true, true, true⟩

/-- The per-lane counters (TABLE 10-4). -/
structure LaneCounters where
  reportsTaken : Nat := 0
  visitsOpened : Nat := 0
  busyDiscards : Nat := 0
  closedDiscards : Nat := 0
  admitted : Nat := 0
  turnedAway : Nat := 0
  trouble : Nat := 0
  inspection : Nat := 0
  deriving DecidableEq, Repr

/-- The per-part counters (TABLE 10-4 order). -/
structure PartCounters where
  overrunDrops : Nat := 0
  orphanCloses : Nat := 0
  unkeptCodes : Nat := 0
  alertOverwrites : Nat := 0
  unknownStations : Nat := 0
  misrouted : Nat := 0
  lowConfidence : Nat := 0
  badPosition : Nat := 0
  zeroTags : Nat := 0
  excessSeals : Nat := 0
  insertFailures : Nat := 0
  redecisions : Nat := 0
  unknownFeedback : Nat := 0
  staleShown : Nat := 0
  urgentReplacements : Nat := 0
  passedWhileDown : Nat := 0
  mgmtDrops : Nat := 0
  laneToUplinkDrops : Nat := 0
  uplinkToLaneDrops : Nat := 0
  laneCommandDrops : Nat := 0
  malformed : Nat := 0
  deriving DecidableEq, Repr

/-- The names of the per-lane counters (TABLE 10-4). -/
inductive LaneCounter where
  | reportsTaken | visitsOpened | busyDiscards | closedDiscards | admitted | turnedAway | trouble | inspection
  deriving DecidableEq, Repr

/-- The names of the per-part counters (TABLE 10-4). -/
inductive PartCounter where
  | overrunDrops | orphanCloses | unkeptCodes | alertOverwrites | unknownStations | misrouted | lowConfidence
  | badPosition | zeroTags | excessSeals | insertFailures | redecisions | unknownFeedback | staleShown
  | urgentReplacements | passedWhileDown | mgmtDrops | laneToUplinkDrops | uplinkToLaneDrops | laneCommandDrops
  | malformed
  deriving DecidableEq, Repr

/-- A visit report: the report number, the gate clock at placing and the copied record (R174, R175). -/
structure VisitReport where
  number : Nat
  clock : Nat
  visit : Visit
  deriving DecidableEq, Repr

/-- The management unit's state (TABLE 10-6), with the unit address and the type strap as last read (R177). -/
structure Mgmt where
  unit : MgmtUnit
  queue : List Request
  params : Params
  mask : NoticeSet
  flags : NoticeSet
  noticeWaiting : Bool
  laneCounters : Vector LaneCounters 12
  partCounters : PartCounters
  clock : Nat
  reportQueue : List VisitReport
  reportWait : List RecNo
  hold : Bool
  reportNumber : Nat
  unitAddr : Byte
  typeHigh : Bool
  deriving DecidableEq, Repr

/-! ### Responses and the link ports (chapters 10 and 11) -/

/-- How an urgent was placed (R157). -/
inductive UrgentPlacement where
  | becameReady | replaced | toFollow
  deriving DecidableEq, Repr

/-- How a dispatch request ended (R125): with the block debited, staged, or waiting in its lane. -/
inductive DispatchResult where
  | dispatched (b : BlockNo)
  | staged
  | waitingInLane
  deriving DecidableEq, Repr

/-- What BOOKING_READ says of a line's index entry: nothing for a PICK line (R56). -/
abbrev LineIndexed := Option Bool

/-- The results of a response, as the owning rules name them. -/
inductive Results where
  | none
  | station (e : Option Station)
  | code (e : CodeEntry)
  | watch (e : WatchEntry)
  | window (slot : Option Window) (derived : WindowState) (arrival : Nat) (gap : Bool) (clock : Nat)
  | block (b : YardBlock) (staged laneWait : Nat)
  | bookingIndexed (line1 line2 : LineIndexed)
  | booking (b : Option Booking) (line1 line2 : LineIndexed)
  | param (value : Nat)
  | times (before after : Nat)
  | visitNumber (n : Nat)
  | visit (v : Visit) (pending : Option Direction)
  | release (r : DispatchResult)
  | urgent (p : UrgentPlacement)
  | notices (flags : NoticeSet)
  | alert (a : Option Alert)
  | counters (lanes : Vector LaneCounters 12) (part : PartCounters) (clock : Nat)
  | reports (queued waiting : Nat)
  | identity (unitAddr : Byte) (typeHigh : Bool) (partition capacity clock reportNumber : Nat)
  deriving DecidableEq, Repr

/-- A management response: the request's tag, its kind byte, the status and the results (R166). -/
structure Response where
  tag : Nat
  kind : Nat
  status : Status
  results : Results
  deriving DecidableEq, Repr

/-- A report handed to the UPLINK port. It is still of the report queue unless a warm reset emptied the queue
meanwhile (R175, R176). -/
structure HandedReport where
  report : VisitReport
  ofQueue : Bool
  deriving DecidableEq, Repr

/-- The frame in transmission on the UPLINK port. A bridged frame stays the head of its queue (R183). -/
inductive UplinkFrame where
  | response (r : Response)
  | notice (flags : NoticeSet) (clock : Nat)
  | report (r : HandedReport)
  | bridged
  deriving DecidableEq, Repr

/-- A LANE_COMMAND as built: the station number it was built with and its body (R186, TABLE 11-5). -/
inductive LaneCommand where
  | direction (station : Nat) (point : Point) (d : Direction) (sequence : Nat)
  | barrierRaise (station : Nat) (lane : Lane) (visit : Nat)
  deriving DecidableEq, Repr

/-- A command waiting in a direction place or a barrier place of the LANE port; `urgent` marks a DIRECTION sent from
an urgent slot (R186). -/
structure LaneSender where
  urgent : Bool
  command : LaneCommand
  deriving DecidableEq, Repr

/-- The frame in transmission on the LANE port. -/
inductive LaneFrame where
  | command (c : LaneCommand)
  | bridged
  deriving DecidableEq, Repr

/-- The link ports: pass-through queues (oldest first), the sender places of both arbiters (the LANE places in the
order they were taken) and the frames in transmission (R183–R187). -/
structure Ports where
  laneToUplink : List Frame
  uplinkToLane : List Frame
  responsePlace : Option Response
  reportPlace : Option HandedReport
  uplinkSending : Option UplinkFrame
  lanePlaces : List LaneSender
  laneSending : Option LaneFrame
  deriving DecidableEq, Repr

/-! ### The machine -/

/-- The whole state of the part, one record per block, and the queue of the commands that wait. -/
structure State where
  ports : Ports
  intake : Intake
  asm : Assembler
  watch : Vector WatchEntry 64
  check : CheckUnit
  store : TableStore
  ring : Ring
  pacer : Pacer
  engine : Engine
  mgmt : Mgmt
  pending : List Instr
  deriving DecidableEq, Repr

/-- Why a step can stop with a fault: no command of this block does, since the spec names no fault that stops the
part. The type has no constructor. -/
inductive Fault where
  deriving DecidableEq, Repr

/-- Why a step can be refused. -/
inductive Refusal where
  /-- The command has no meaning in the model yet. Safe: the model stops. No arm of `exec` raises it. -/
  | notModelled (mnemonic : String)
  deriving DecidableEq, Repr

/-- The assembler after either reset but for the next-visit-number register (TABLE 1-4). -/
def Assembler.cleared (next : Nat) : Assembler :=
  { visits := Vector.replicate 48 { }
    freeList := List.finRange 48
    nextNumber := next
    lanes := Vector.replicate 12 { } }

/-- The part at the end of a cold reset, with the strap levels it reads then: every block's cold column (TABLES 1-4,
2-10, 3-7, 4-3, 5-7, 6-12, 7-8, 8-4, 9-7, 10-6; R187), the cold sweep granted the store (R59). -/
def State.cold (unitAddr : Byte) (typeHigh : Bool) : State where
  ports :=
    { laneToUplink := [], uplinkToLane := [], responsePlace := none, reportPlace := none, uplinkSending := none,
      lanePlaces := [], laneSending := none }
  intake :=
    { queue := [], stations := Vector.replicate 64 none, codes := Vector.replicate 8 { },
      latches := Vector.replicate 12 none, overrun := false }
  asm := Assembler.cleared 1
  watch := Vector.replicate 64 { }
  check := { queue := [], context := none }
  store :=
    { partition := 1, bookings := [], index := [], granted := some (.mgmt .coldSweep), checkWaiting := none,
      mgmtWaiting := none }
  ring := { slots := Vector.replicate 96 none, arrival := 0, gap := true }
  pacer :=
    { blocks := Vector.replicate 32 { }, staged := [], rows := Vector.replicate 24 .free, laneWait := [] }
  engine :=
    { points := Vector.replicate 14 { }, barriers := Vector.replicate 12 { }, departures := Vector.replicate 12 [],
      pendings := [] }
  mgmt :=
    { unit := .sweeping, queue := [], params := { }, mask := .all, flags := { }, noticeWaiting := false,
      laneCounters := Vector.replicate 12 { }, partCounters := { }, clock := 0, reportQueue := [], reportWait := [],
      hold := false, reportNumber := 0, unitAddr := unitAddr, typeHigh := typeHigh }
  pending := []

/-- The machine after reset: a cold reset with every strap unconnected, which reads 0 by the pull-downs of section
11.5, and no command waiting. -/
def State.reset : State := State.cold 0 false

end Sys2Proof.Machine
end

