-- ==== Sys2Proof/Machine/Ops.lean ====
section
/-! DEFINITION. The named operations over the part's tables: one place of a table changed, a visit found by its
number, a counter raised, a sparse table read and written. Everything else is built on them. -/

namespace Sys2Proof.Machine

open Sys2Proof

/-- A table with one place changed. -/
def updAt (v : Vector α n) (i : Fin n) (f : α → α) : Vector α n := v.set i.val (f v[i]) i.isLt

/-- One operation made for every place of a table, in ascending order. -/
def forEach (n : Nat) (f : Fin n → State → State) (s : State) : State :=
  (List.finRange n).foldl (fun t i => f i t) s

/-! ### Sparse tables: a list of numbered entries with rising numbers -/

/-- The entry at a number, when the table lists one. -/
def readCell (k : Nat) : List (Nat × α) → Option α
  | [] => none
  | (j, x) :: rest => if j = k then some x else readCell k rest

/-- The table with the entry at a number written. -/
def writeCell (k : Nat) (x : α) : List (Nat × α) → List (Nat × α)
  | [] => [(k, x)]
  | (j, y) :: rest =>
    if k < j then (k, x) :: (j, y) :: rest
    else if j = k then (k, x) :: rest
    else (j, y) :: writeCell k x rest

/-- The table with the entry at a number removed. -/
def clearCell (k : Nat) : List (Nat × α) → List (Nat × α)
  | [] => []
  | (j, y) :: rest => if j = k then rest else (j, y) :: clearCell k rest

/-- The one canonical form of a sparse table: numbers strictly rising. -/
def cellsWf : List (Nat × α) → Bool
  | [] => true
  | [_] => true
  | (j, _) :: (k, y) :: rest => decide (j < k) && cellsWf ((k, y) :: rest)

/-! ### Reading and changing one thing -/

/-- A visit record. -/
def State.visit (s : State) (r : RecNo) : Visit := s.asm.visits[r]

/-- A visit record changed. -/
def State.modVisit (r : RecNo) (f : Visit → Visit) (s : State) : State :=
  { s with asm := { s.asm with visits := updAt s.asm.visits r f } }

/-- A lane of the assembler. -/
def State.lane (s : State) (l : Lane) : LaneRecord := s.asm.lanes[l]

/-- A lane of the assembler changed. -/
def State.modLane (l : Lane) (f : LaneRecord → LaneRecord) (s : State) : State :=
  { s with asm := { s.asm with lanes := updAt s.asm.lanes l f } }

/-- A direction point. -/
def State.point (s : State) (p : Point) : PointState := s.engine.points[p]

/-- A direction point changed. -/
def State.modPoint (p : Point) (f : PointState → PointState) (s : State) : State :=
  { s with engine := { s.engine with points := updAt s.engine.points p f } }

/-- A lane's barrier. -/
def State.barrier (s : State) (l : Lane) : Barrier := s.engine.barriers[l]

/-- A lane's barrier changed. -/
def State.modBarrier (l : Lane) (f : Barrier → Barrier) (s : State) : State :=
  { s with engine := { s.engine with barriers := updAt s.engine.barriers l f } }

/-- A lane's departure queue. -/
def State.departures (s : State) (l : Lane) : List Departure := s.engine.departures[l]

/-- A lane's departure queue changed. -/
def State.modDepartures (l : Lane) (f : List Departure → List Departure) (s : State) : State :=
  { s with engine := { s.engine with departures := updAt s.engine.departures l f } }

/-- A yard-block record. -/
def State.block (s : State) (b : BlockNo) : YardBlock := s.pacer.blocks[b]

/-- A yard-block record changed. -/
def State.modBlock (b : BlockNo) (f : YardBlock → YardBlock) (s : State) : State :=
  { s with pacer := { s.pacer with blocks := updAt s.pacer.blocks b f } }

/-- A staging row. -/
def State.rowState (s : State) (r : RowNo) : RowState := s.pacer.rows[r]

/-- A staging row set. -/
def State.setRow (r : RowNo) (x : RowState) (s : State) : State :=
  { s with pacer := { s.pacer with rows := updAt s.pacer.rows r (fun _ => x) } }

/-- The staged queue set. -/
def State.setStaged (q : List StagedEntry) (s : State) : State :=
  { s with pacer := { s.pacer with staged := q } }

/-- The lane-wait list set. -/
def State.setLaneWait (q : List LaneWaitEntry) (s : State) : State :=
  { s with pacer := { s.pacer with laneWait := q } }

/-- The check context set, or discarded. -/
def State.setContext (c : Option CheckContext) (s : State) : State :=
  { s with check := { s.check with context := c } }

/-- The pending directions set. -/
def State.setPendings (q : List PendingDirection) (s : State) : State :=
  { s with engine := { s.engine with pendings := q } }

/-! ### Visits by number, by state and by position -/

/-- The record, not in FREE, that carries a visit number (R3, R25). -/
def State.findVisit (s : State) (n : Nat) : Option RecNo :=
  (List.finRange 48).find? (fun r => (s.visit r).state != .free && (s.visit r).number == n)

/-- What a visit keeps at a position. -/
def Visit.at (v : Visit) : Pos → PosData
  | .one => v.pos1
  | .two => v.pos2

/-- A visit with what it keeps at a position changed. -/
def Visit.modAt (v : Visit) (f : PosData → PosData) : Pos → Visit
  | .one => { v with pos1 := f v.pos1 }
  | .two => { v with pos2 := f v.pos2 }

/-- Whether a visit holds a container at either position. -/
def Visit.hasContainer (v : Visit) : Bool := v.pos1.container.isSome || v.pos2.container.isSome

/-- The state of a visit set. -/
def State.setVisitState (r : RecNo) (x : VisitState) (s : State) : State :=
  s.modVisit r (fun v => { v with state := x })

/-- The value kept for a panel. -/
def PerPanel.get (p : PerPanel α) : Panel → α
  | .front => p.front
  | .rear => p.rear
  | .left => p.left
  | .right => p.right
  | .roof => p.roof
  | .doors => p.doors

/-- The value of a panel set. -/
def PerPanel.put (p : PerPanel α) (x : α) : Panel → PerPanel α
  | .front => { p with front := x }
  | .rear => { p with rear := x }
  | .left => { p with left := x }
  | .right => { p with right := x }
  | .roof => { p with roof := x }
  | .doors => { p with doors := x }

/-- The six values in panel order. -/
def PerPanel.toList (p : PerPanel α) : List α := [p.front, p.rear, p.left, p.right, p.roof, p.doors]

/-! ### Counters (R173): 32 bits wide, saturating -/

/-- A per-part counter's value. -/
def PartCounters.get (c : PartCounters) : PartCounter → Nat
  | .overrunDrops => c.overrunDrops
  | .orphanCloses => c.orphanCloses
  | .unkeptCodes => c.unkeptCodes
  | .alertOverwrites => c.alertOverwrites
  | .unknownStations => c.unknownStations
  | .misrouted => c.misrouted
  | .lowConfidence => c.lowConfidence
  | .badPosition => c.badPosition
  | .zeroTags => c.zeroTags
  | .excessSeals => c.excessSeals
  | .insertFailures => c.insertFailures
  | .redecisions => c.redecisions
  | .unknownFeedback => c.unknownFeedback
  | .staleShown => c.staleShown
  | .urgentReplacements => c.urgentReplacements
  | .passedWhileDown => c.passedWhileDown
  | .mgmtDrops => c.mgmtDrops
  | .laneToUplinkDrops => c.laneToUplinkDrops
  | .uplinkToLaneDrops => c.uplinkToLaneDrops
  | .laneCommandDrops => c.laneCommandDrops
  | .malformed => c.malformed

/-- A per-part counter incremented. -/
def PartCounters.bump (c : PartCounters) : PartCounter → PartCounters
  | .overrunDrops => { c with overrunDrops := satInc max32 c.overrunDrops }
  | .orphanCloses => { c with orphanCloses := satInc max32 c.orphanCloses }
  | .unkeptCodes => { c with unkeptCodes := satInc max32 c.unkeptCodes }
  | .alertOverwrites => { c with alertOverwrites := satInc max32 c.alertOverwrites }
  | .unknownStations => { c with unknownStations := satInc max32 c.unknownStations }
  | .misrouted => { c with misrouted := satInc max32 c.misrouted }
  | .lowConfidence => { c with lowConfidence := satInc max32 c.lowConfidence }
  | .badPosition => { c with badPosition := satInc max32 c.badPosition }
  | .zeroTags => { c with zeroTags := satInc max32 c.zeroTags }
  | .excessSeals => { c with excessSeals := satInc max32 c.excessSeals }
  | .insertFailures => { c with insertFailures := satInc max32 c.insertFailures }
  | .redecisions => { c with redecisions := satInc max32 c.redecisions }
  | .unknownFeedback => { c with unknownFeedback := satInc max32 c.unknownFeedback }
  | .staleShown => { c with staleShown := satInc max32 c.staleShown }
  | .urgentReplacements => { c with urgentReplacements := satInc max32 c.urgentReplacements }
  | .passedWhileDown => { c with passedWhileDown := satInc max32 c.passedWhileDown }
  | .mgmtDrops => { c with mgmtDrops := satInc max32 c.mgmtDrops }
  | .laneToUplinkDrops => { c with laneToUplinkDrops := satInc max32 c.laneToUplinkDrops }
  | .uplinkToLaneDrops => { c with uplinkToLaneDrops := satInc max32 c.uplinkToLaneDrops }
  | .laneCommandDrops => { c with laneCommandDrops := satInc max32 c.laneCommandDrops }
  | .malformed => { c with malformed := satInc max32 c.malformed }

/-- A per-lane counter's value. -/
def LaneCounters.get (c : LaneCounters) : LaneCounter → Nat
  | .reportsTaken => c.reportsTaken
  | .visitsOpened => c.visitsOpened
  | .busyDiscards => c.busyDiscards
  | .closedDiscards => c.closedDiscards
  | .admitted => c.admitted
  | .turnedAway => c.turnedAway
  | .trouble => c.trouble
  | .inspection => c.inspection

/-- A per-lane counter incremented. -/
def LaneCounters.bump (c : LaneCounters) : LaneCounter → LaneCounters
  | .reportsTaken => { c with reportsTaken := satInc max32 c.reportsTaken }
  | .visitsOpened => { c with visitsOpened := satInc max32 c.visitsOpened }
  | .busyDiscards => { c with busyDiscards := satInc max32 c.busyDiscards }
  | .closedDiscards => { c with closedDiscards := satInc max32 c.closedDiscards }
  | .admitted => { c with admitted := satInc max32 c.admitted }
  | .turnedAway => { c with turnedAway := satInc max32 c.turnedAway }
  | .trouble => { c with trouble := satInc max32 c.trouble }
  | .inspection => { c with inspection := satInc max32 c.inspection }

/-- A per-part counter event. -/
def State.count (k : PartCounter) (s : State) : State :=
  { s with mgmt := { s.mgmt with partCounters := s.mgmt.partCounters.bump k } }

/-- A per-lane counter event. -/
def State.countLane (l : Lane) (k : LaneCounter) (s : State) : State :=
  { s with mgmt := { s.mgmt with laneCounters := updAt s.mgmt.laneCounters l (fun c => c.bump k) } }

/-- Every counter set to 0 (R173). -/
def State.clearCounters (s : State) : State :=
  { s with mgmt := { s.mgmt with laneCounters := Vector.replicate 12 { }, partCounters := { } } }

/-! ### Stations (R28) -/

/-- The valid entry of the station table that holds a station number. -/
def State.stationOf (s : State) (n : Nat) : Option Station :=
  (s.intake.stations.toList.filterMap id).find? (fun e => e.number == n)

/-- The display station of a point: the lowest valid DISPLAY entry at the point. -/
def State.displayStation (s : State) (p : Point) : Option Nat :=
  ((s.intake.stations.toList.filterMap id).find? (fun e => e.role == .display && e.point == p)).map Station.number

/-- The barrier station of a lane: the lowest valid BARRIER entry at the lane's point. -/
def State.barrierStation (s : State) (l : Lane) : Option Nat :=
  ((s.intake.stations.toList.filterMap id).find?
    (fun e => e.role == .barrier && e.point == lanePoint l)).map Station.number

/-- The Ethernet type value selected by the type strap (R177, TABLE 11-7). -/
def State.selectedType (s : State) : BitVec 16 := if s.mgmt.typeHigh then 0x88B6#16 else 0x88B5#16

end Sys2Proof.Machine
end

