-- ==== Sys2Proof/Machine/Flags.lean ====
section
/-! DEFINITION. The flags of the part: the notice flags with their mask (R170–R172) and the marks of a visit (R6). -/

namespace Sys2Proof.Machine

open Sys2Proof

/-- Whether a class is in the set. -/
def NoticeSet.has (n : NoticeSet) : NoticeClass → Bool
  | .laneAlert => n.laneAlert
  | .overrun => n.overrun
  | .displayFault => n.displayFault
  | .barrierFault => n.barrierFault
  | .feedbackLost => n.feedbackLost
  | .stagingLong => n.stagingLong
  | .reportQueueHigh => n.reportQueueHigh
  | .visitStoreLow => n.visitStoreLow
  | .heldVisit => n.heldVisit

/-- The set with a class put in. -/
def NoticeSet.insert (n : NoticeSet) : NoticeClass → NoticeSet
  | .laneAlert => { n with laneAlert := true }
  | .overrun => { n with overrun := true }
  | .displayFault => { n with displayFault := true }
  | .barrierFault => { n with barrierFault := true }
  | .feedbackLost => { n with feedbackLost := true }
  | .stagingLong => { n with stagingLong := true }
  | .reportQueueHigh => { n with reportQueueHigh := true }
  | .visitStoreLow => { n with visitStoreLow := true }
  | .heldVisit => { n with heldVisit := true }

/-- The set less the classes of another. -/
def NoticeSet.without (n m : NoticeSet) : NoticeSet :=
  { laneAlert := n.laneAlert && !m.laneAlert
    overrun := n.overrun && !m.overrun
    displayFault := n.displayFault && !m.displayFault
    barrierFault := n.barrierFault && !m.barrierFault
    feedbackLost := n.feedbackLost && !m.feedbackLost
    stagingLong := n.stagingLong && !m.stagingLong
    reportQueueHigh := n.reportQueueHigh && !m.reportQueueHigh
    visitStoreLow := n.visitStoreLow && !m.visitStoreLow
    heldVisit := n.heldVisit && !m.heldVisit }

/-- Whether two sets have a class in common. -/
def NoticeSet.meets (n m : NoticeSet) : Bool :=
  n.laneAlert && m.laneAlert || n.overrun && m.overrun || n.displayFault && m.displayFault
    || n.barrierFault && m.barrierFault || n.feedbackLost && m.feedbackLost || n.stagingLong && m.stagingLong
    || n.reportQueueHigh && m.reportQueueHigh || n.visitStoreLow && m.visitStoreLow || n.heldVisit && m.heldVisit

/-- The set as a number, bit 0 the first class of TABLE 10-3 (TABLE 11-2). -/
def NoticeSet.toBits (n : NoticeSet) : Nat :=
  n.laneAlert.toNat + 2 * n.overrun.toNat + 4 * n.displayFault.toNat + 8 * n.barrierFault.toNat
    + 16 * n.feedbackLost.toNat + 32 * n.stagingLong.toNat + 64 * n.reportQueueHigh.toNat
    + 128 * n.visitStoreLow.toNat + 256 * n.heldVisit.toNat

/-- The set a number names; bits above the ninth name no class. -/
def NoticeSet.ofBits (w : Nat) : NoticeSet :=
  { laneAlert := w.testBit 0
    overrun := w.testBit 1
    displayFault := w.testBit 2
    barrierFault := w.testBit 3
    feedbackLost := w.testBit 4
    stagingLong := w.testBit 5
    reportQueueHigh := w.testBit 6
    visitStoreLow := w.testBit 7
    heldVisit := w.testBit 8 }

/-- A NOTICE is started, or joins the one that waits (R171). -/
def State.startNotice (s : State) : State := { s with mgmt := { s.mgmt with noticeWaiting := true } }

/-- An event of a class is raised (R170): a clear flag becomes set, and a NOTICE is started when the class is enabled;
a set flag changes nothing. -/
def State.raise (c : NoticeClass) (s : State) : State :=
  if s.mgmt.flags.has c then s
  else
    let t : State := { s with mgmt := { s.mgmt with flags := s.mgmt.flags.insert c } }
    if s.mgmt.mask.has c then t.startNotice else t

/-- A level class is raised again when its condition holds; `raise` leaves a flag that is set (R172, step 3). -/
def State.raiseLevel (c : NoticeClass) (holds : Bool) (s : State) : State := if holds then s.raise c else s

/-- An acknowledgement of a set of classes (R172), with the overrun flag of the lane intake (R11). -/
def State.acknowledge (named : NoticeSet) (s : State) : State :=
  let t : State :=
    { s with
      mgmt := { s.mgmt with flags := s.mgmt.flags.without named }
      intake := { s.intake with overrun := s.intake.overrun && !named.overrun } }
  (t.raiseLevel .reportQueueHigh (decide (12 ≤ t.mgmt.reportQueue.length))).raiseLevel .visitStoreLow
    (decide (t.asm.freeList.length ≤ 4))

/-- The names of the marks (TABLE 1-3). -/
inductive Mark where
  | gap | overflow | conflict | plateConflict | stopIssued | unconfirmed
  deriving DecidableEq, Repr

/-- A mark set; one already present stays (R6). -/
def Marks.add (m : Marks) : Mark → Marks
  | .gap => { m with gap := true }
  | .overflow => { m with overflow := true }
  | .conflict => { m with conflict := true }
  | .plateConflict => { m with plateConflict := true }
  | .stopIssued => { m with stopIssued := true }
  | .unconfirmed => { m with unconfirmed := true }

/-- A mark set on a visit. -/
def State.mark (r : RecNo) (k : Mark) (s : State) : State :=
  s.modVisit r (fun v => { v with marks := v.marks.add k })

/-- The marks as a number, bit 0 GAP (TABLE 11-3). -/
def Marks.toBits (m : Marks) : Nat :=
  m.gap.toNat + 2 * m.overflow.toNat + 4 * m.conflict.toNat + 8 * m.plateConflict.toNat
    + 16 * m.stopIssued.toNat + 32 * m.unconfirmed.toNat

end Sys2Proof.Machine
end

