-- ==== Sys2Proof/Machine/Ports.lean ====
section
/-! DEFINITION. The sending side of the link ports: sender places, the two output arbiters, and what ends every step
(R175, R184–R187). A step is indivisible, so the arbiters choose at its end among all that the step left waiting. -/

namespace Sys2Proof.Machine

open Sys2Proof

/-- Whether two LANE_COMMANDs take the same sender place: the direction place of a point, the barrier place of a
lane (R186). -/
def samePlace : LaneCommand → LaneCommand → Bool
  | .direction _ p _ _, .direction _ q _ _ => p == q
  | .barrierRaise _ l _, .barrierRaise _ m _ => l == m
  | _, _ => false

/-- A command placed: an unsent command in its place is discarded, and the new one is ordered last (R186). -/
def State.placeLane (x : LaneSender) (s : State) : State :=
  { s with ports := { s.ports with
      lanePlaces := s.ports.lanePlaces.filter (fun y => !samePlace x.command y.command) ++ [x] } }

/-- The oldest urgent DIRECTION of the places, and the places without it. -/
def takeUrgent : List LaneSender → Option (LaneSender × List LaneSender)
  | [] => none
  | x :: rest =>
    if x.urgent then some (x, rest)
    else (takeUrgent rest).map (fun p => (p.1, x :: p.2))

/-- The LANE arbiter (R186): the oldest urgent DIRECTION, then the oldest other command, then the pass-through head. -/
def State.grantLane (s : State) : State :=
  match s.ports.laneSending with
  | some _ => s
  | none =>
    match takeUrgent s.ports.lanePlaces with
    | some (x, rest) =>
      { s with ports := { s.ports with lanePlaces := rest, laneSending := some (.command x.command) } }
    | none =>
      match s.ports.lanePlaces with
      | x :: rest =>
        { s with ports := { s.ports with lanePlaces := rest, laneSending := some (.command x.command) } }
      | [] =>
        if s.ports.uplinkToLane.isEmpty then s
        else { s with ports := { s.ports with laneSending := some .bridged } }

/-- Whether a report of the report queue is with the UPLINK port (R175). -/
def State.reportAtPort (s : State) : Bool :=
  (match s.ports.reportPlace with
   | some h => h.ofQueue
   | none => false)
  || (match s.ports.uplinkSending with
      | some (.report h) => h.ofQueue
      | _ => false)

/-- The oldest report handed to the port when the hold is off, the queue is not empty, no report of the queue is
with the port and the report place is empty (R175, R185). -/
def State.handReport (s : State) : State :=
  match s.mgmt.reportQueue with
  | [] => s
  | r :: _ =>
    if s.mgmt.hold || s.reportAtPort || s.ports.reportPlace.isSome then s
    else { s with ports := { s.ports with reportPlace := some ⟨r, true⟩ } }

/-- The UPLINK arbiter (R185): management response, then NOTICE, then visit report, then pass-through. The contents
of a NOTICE are fixed here, where its sending begins (R171). -/
def State.grantUplink (s : State) : State :=
  match s.ports.uplinkSending with
  | some _ => s
  | none =>
    match s.ports.responsePlace with
    | some r =>
      { s with ports := { s.ports with responsePlace := none, uplinkSending := some (.response r) } }
    | none =>
      if s.mgmt.noticeWaiting then
        { s with
          ports := { s.ports with uplinkSending := some (.notice s.mgmt.flags s.mgmt.clock) }
          mgmt := { s.mgmt with noticeWaiting := false } }
      else
        match s.ports.reportPlace with
        | some h =>
          { s with ports := { s.ports with reportPlace := none, uplinkSending := some (.report h) } }
        | none =>
          if s.ports.laneToUplink.isEmpty then s
          else { s with ports := { s.ports with uplinkSending := some .bridged } }

/-- What ends every step: a report is handed to the port where one may be, each free transmitter is granted, and a report
is handed too where the grant of one that a warm reset cut off has just emptied the report place (R175, R176). -/
def State.settle (s : State) : State := s.handReport.grantUplink.handReport.grantLane

/-- The outcome of a step: its state with the ports settled. -/
def done (s : State) : Host.Outcome State Fault Refusal := .next s.settle

/-- A frame joins the pass-through queue toward the other port, or is dropped and counted (R183). -/
def State.bridge (p : Port) (f : Frame) (s : State) : State :=
  match p with
  | .lane =>
    if s.ports.laneToUplink.length < 32 then
      { s with ports := { s.ports with laneToUplink := s.ports.laneToUplink ++ [f] } }
    else s.count .laneToUplinkDrops
  | .uplink =>
    if s.ports.uplinkToLane.length < 32 then
      { s with ports := { s.ports with uplinkToLane := s.ports.uplinkToLane ++ [f] } }
    else s.count .uplinkToLaneDrops

end Sys2Proof.Machine
end

