-- ==== Sys2Proof/Machine/Ring.lean ====
section
/-! DEFINITION. The window ring (chapter 4): slots, the arrival period and the gap, derived states, readings and
walk-in claims. -/

namespace Sys2Proof.Machine

open Sys2Proof

/-- The slot of a period: period mod 96 (R61). -/
def slotOf (p : Nat) : Fin 96 := ⟨p % 96, Nat.mod_lt _ (by decide)⟩

/-- The window of period p, when its slot holds p (R61). -/
def Ring.window? (r : Ring) (p : Nat) : Option Window :=
  match r.slots[slotOf p] with
  | some w => if w.period = p then some w else none
  | none => none

/-- A slot of the ring set. -/
def Ring.setSlot (r : Ring) (i : Fin 96) (w : Option Window) : Ring :=
  { r with slots := updAt r.slots i (fun _ => w) }

/-- The window of period p changed, when its slot holds p. -/
def Ring.modWindow (r : Ring) (p : Nat) (f : Window → Window) : Ring :=
  match r.window? p with
  | some w => r.setSlot (slotOf p) (some (f w))
  | none => r

/-- Whether a window contains a time (section 4.1). -/
def Window.contains (w : Window) (t : Nat) : Bool := decide (w.start ≤ t) && decide (t < w.start + w.length)

/-- Whether the period after the arrival period is present and has started at t (R68, R69). -/
def Ring.nextStarted (r : Ring) (t : Nat) : Bool :=
  decide (r.arrival < max32) &&
    (match r.window? (r.arrival + 1) with
     | some w => decide (w.start ≤ t)
     | none => false)

/-- A second event taken while the gap flag is clear (R68). -/
def Ring.advance (r : Ring) (t : Nat) : Ring :=
  if r.nextStarted t then { r with arrival := r.arrival + 1 }
  else
    match r.window? r.arrival with
    | none => { r with gap := true }
    | some w => if w.start + w.length ≤ t then { r with gap := true } else r

/-- A second event taken while the gap flag is set (R69). -/
def Ring.resume (r : Ring) (t : Nat) : Ring :=
  match r.window? r.arrival with
  | some w =>
    if w.contains t then { r with gap := false }
    else if r.nextStarted t then { r with arrival := r.arrival + 1, gap := false }
    else r
  | none => if r.nextStarted t then { r with arrival := r.arrival + 1, gap := false } else r

/-- A second event at gate clock t (R68, R69). -/
def Ring.second (r : Ring) (t : Nat) : Ring := if r.gap then r.resume t else r.advance t

/-- The highest period among the slots whose window contains t (R70). -/
def Ring.highestContaining (r : Ring) (t : Nat) : Option Nat :=
  r.slots.toList.foldl
    (fun best slot =>
      match slot with
      | none => best
      | some w =>
        if w.contains t then
          match best with
          | none => some w.period
          | some b => some (max b w.period)
        else best)
    none

/-- The re-derivation of TIME_SET (R70). -/
def Ring.rederive (r : Ring) (t : Nat) : Ring :=
  match r.highestContaining t with
  | some p => { r with arrival := p, gap := false }
  | none => { r with gap := true }

/-- The derived state of a slot holding period w with late tolerance l against arrival period a (R71, TABLE 4-2);
subtraction stops at 0. -/
def derivedState (a w l : Nat) : WindowState :=
  if a < w then .future
  else if w = a then .current
  else if a - l ≤ w then .past
  else .closed

/-- The derived state of a slot (TABLE 4-2). -/
def Ring.slotState (r : Ring) : Option Window → WindowState
  | none => .empty
  | some w => derivedState r.arrival w.period w.late

/-- The current slot's window, when the gap flag is clear (R67). -/
def Ring.current? (r : Ring) : Option Window := if r.gap then none else r.window? r.arrival

/-- A window reading, naming a booking period or none (R72). -/
def Ring.reading (r : Ring) (b : Option Nat) : Reading :=
  { arrival := r.arrival
    gap := r.gap
    slot :=
      match b with
      | none => none
      | some p =>
        (r.window? p).map (fun w => ⟨w.early, w.late, derivedState r.arrival w.period w.late⟩)
    walkIn := r.current?.map (fun w => (w.allowance, w.used)) }

/-- A walk-in claim (R73): granted against the current slot while its used count is below its allowance. -/
def Ring.claim (r : Ring) : Option Ring :=
  match r.current? with
  | some w =>
    if w.used < w.allowance then some (r.modWindow r.arrival (fun w => { w with used := w.used + 1 })) else none
  | none => none

/-- The gap flag set when the slot of the arrival period no longer holds it (R64, R65). -/
def Ring.noteDisplaced (r : Ring) : Ring :=
  if r.gap then r
  else
    match r.window? r.arrival with
    | some _ => r
    | none => { r with gap := true }

/-- Every booked count 0, as the clear leaves it (R58). -/
def Ring.clearBooked (r : Ring) : Ring :=
  { r with slots := Vector.ofFn (fun i => (r.slots[i]).map (fun w => { w with booked := 0 })) }

/-- The ring replaced. -/
def State.setRing (r : Ring) (s : State) : State := { s with ring := r }

end Sys2Proof.Machine
end

