-- ==== Sys2Proof/Machine/Store.lean ====
section
/-! DEFINITION. The table store (chapter 3): partition, container key and index, the accesses of both blocks and the
arbiter. -/

namespace Sys2Proof.Machine

open Sys2Proof

/-! ### Texts -/

/-- Whether a byte is one of the letters A–Z. -/
def isLetter (b : Byte) : Bool := decide (65 ≤ b.toNat) && decide (b.toNat ≤ 90)

/-- Whether a byte is one of the digits 0–9. -/
def isDigit (b : Byte) : Bool := decide (48 ≤ b.toNat) && decide (b.toNat ≤ 57)

/-- The value of a digit. -/
def digitValue (b : Byte) : Nat := b.toNat - 48

/-- Whether a text has 1 to 11 characters from A–Z and 0–9 (section 5.3 of 00_scope). -/
def validText (t : Text) : Bool :=
  decide (1 ≤ t.length) && decide (t.length ≤ 11) && t.all (fun b => isLetter b || isDigit b)

/-- Whether a text is 11 characters of 4 letters followed by 7 digits (R37, R52). -/
def isContainerNumber (t : Text) : Bool :=
  decide (t.length = 11) && (t.take 4).all isLetter && (t.drop 4).all isDigit

/-! ### Partition (R45, R46, TABLE 3-4) -/

/-- The number of record places of a partition setting. -/
def bookingCapacity (g : Nat) : Nat := if g = 0 then 0 else if g = 1 then 4096 else 8192

/-- The number of index buckets of a partition setting. -/
def bucketCount (g : Nat) : Nat := if g = 0 then 8192 else if g = 1 then 4096 else 2048

/-- The first index column: the first multiple of 4 at or above 6g (R46). -/
def firstIndexColumn (g : Nat) : Nat := (6 * g + 3) / 4 * 4

/-- The row and the first column of booking index i (R46). -/
def bookingPlace (i : Nat) : Nat × Nat := (i % 4096, if i < 4096 then 0 else 6)

/-- The row and the first column of index entry e: entries of two columns, numbered across the index columns of
row 0, then of row 1, and so on (R46). -/
def entryPlace (g e : Nat) : Nat × Nat :=
  let perRow := (16 - firstIndexColumn g) / 2
  (e / perRow, firstIndexColumn g + 2 * (e % perRow))

/-- The booking index of a reference: its low 13 bits (R45). -/
def refIndex (ref : Nat) : Nat := ref % 8192

/-- The tag of a reference: its high 19 bits (R45). -/
def refTag (ref : Nat) : Nat := ref / 8192

/-! ### The container index (R47, R48) -/

/-- The owner value: four letters read in base 26, the first most significant (R47). -/
def ownerValue (t : Text) : Nat := (t.take 4).foldl (fun n b => n * 26 + (b.toNat - 65)) 0

/-- The serial: characters 5–10 read as a decimal number (R47). -/
def serialValue (t : Text) : Nat := ((t.drop 4).take 6).foldl (fun n b => n * 10 + digitValue b) 0

/-- The container key, computed from the first ten characters of an 11-character text (R47). -/
def containerKey (t : Text) : Option Nat :=
  if t.length = 11 && (t.take 4).all isLetter && ((t.drop 4).take 6).all isDigit then
    some (ownerValue t * 1000000 + serialValue t)
  else none

/-- The four entry numbers of a bucket, ways 0 to 3 (R46). -/
def bucketWays (b : Nat) : List Nat := [4 * b, 4 * b + 1, 4 * b + 2, 4 * b + 3]

/-- The bucket of a key under the current partition (R47). -/
def TableStore.bucketOf (t : TableStore) (key : Nat) : Nat := key % bucketCount t.partition

/-- An index insertion (R48): the first empty way takes the entry, or the insertion fails. -/
def TableStore.insertIndex (t : TableStore) (key i : Nat) : Option TableStore :=
  ((bucketWays (t.bucketOf key)).find? (fun e => (readCell e t.index).isNone)).map
    (fun e => { t with index := writeCell e (IndexEntry.mk key i) t.index })

/-- An index removal (R48): every way that holds the key and the index is emptied. -/
def TableStore.removeIndex (t : TableStore) (key i : Nat) : TableStore :=
  { t with
    index := (bucketWays (t.bucketOf key)).foldl
      (fun ix e => if readCell e ix = some ⟨key, i⟩ then clearCell e ix else ix) t.index }

/-- Whether the key's bucket holds an entry with the key and the index (R56). -/
def TableStore.indexed (t : TableStore) (key i : Nat) : Bool :=
  (bucketWays (t.bucketOf key)).any (fun e => decide (readCell e t.index = some ⟨key, i⟩))

/-- A number put into a rising list without repeats. -/
def insertRising (n : Nat) : List Nat → List Nat
  | [] => [n]
  | m :: rest => if n < m then n :: m :: rest else if n = m then m :: rest else m :: insertRising n rest

/-- An index lookup (R50): the booking indexes of the bucket's ways that hold the key, rising, none twice. -/
def TableStore.lookupContainer (t : TableStore) (number : Text) : List Nat :=
  match containerKey number with
  | none => []
  | some key =>
    (bucketWays (t.bucketOf key)).foldl
      (fun acc e =>
        match readCell e t.index with
        | some x => if x.key = key then insertRising x.booking acc else acc
        | none => acc)
      []

/-! ### Booking records -/

/-- The record at an index, when the index is below the capacity and the record is not FREE. -/
def TableStore.booking? (t : TableStore) (i : Nat) : Option Booking :=
  if i < bookingCapacity t.partition then readCell i t.bookings else none

/-- A booking lookup carrying a reference (R50): none stands for NOT_FOUND. -/
def TableStore.lookupReference (t : TableStore) (ref : Nat) : Option Booking :=
  match t.booking? (refIndex ref) with
  | some b => if b.tag = refTag ref then some b else none
  | none => none

/-- A record set. -/
def TableStore.setBooking (t : TableStore) (i : Nat) (b : Booking) : TableStore :=
  { t with bookings := writeCell i b t.bookings }

/-- The results of a confirm access (TABLE 3-6). -/
inductive ConfirmResult where
  | confirmed | cancelled | alreadyUsed | notFound
  deriving DecidableEq, Repr

/-- The table store replaced. -/
def State.setStore (t : TableStore) (s : State) : State := { s with store := t }

/-- A confirm access (R51): an OPEN record of the same tag becomes ARRIVED, and its period's arrived count rises. -/
def State.confirmAccess (i tag : Nat) (s : State) : State × ConfirmResult :=
  match s.store.booking? i with
  | some b =>
    if b.tag = tag then
      match b.state with
      | .opened =>
        ((s.setStore (s.store.setBooking i { b with state := .arrived })).setRing
          (s.ring.modWindow b.period (fun w => { w with arrived := satInc max16 w.arrived })), .confirmed)
      | .cancelled => (s, .cancelled)
      | .arrived => (s, .alreadyUsed)
    else (s, .notFound)
  | none => (s, .notFound)

/-- The lines of a booking in line order. -/
def Booking.lines (b : Booking) : List BookingLine := b.line1 :: b.line2.toList

/-- The key of a DROP line's container; none for a PICK line. -/
def BookingLine.dropKey (l : BookingLine) : Option Nat :=
  match l.direction, l.container with
  | .drop, some n => containerKey n
  | _, _ => none

/-! ### BOOKING_WRITE (R52, R53) -/

/-- The text of a raw field, when it is 1–11 characters from A–Z and 0–9. -/
def RawText.text? (r : RawText) : Option Text :=
  if decide (r.length ≤ 11) && validText (r.places.take r.length) then some (r.places.take r.length) else none

/-- Whether an optional text is absent: length 0 (TABLE 11-2). -/
def RawText.absent (r : RawText) : Bool := r.length == 0

/-- A container field of a line: absent only in a PICK line, else 4 letters and 7 digits (R52, test 2). -/
def lineContainer? (d : LineDirection) (r : RawText) : Option (Option Text) :=
  if r.absent then
    match d with
    | .drop => none
    | .pick => some none
  else
    match r.text? with
    | some t => if isContainerNumber t then some (some t) else none
    | none => none

/-- The expected seals of a line: at most 2, distinct, none on an EMPTY line (R52, test 2). -/
def lineSeals? (l : RawLine) (load : Load) : Option (List Text) :=
  if 2 < l.sealCount then none
  else
    match (l.seals.take l.sealCount).mapM RawText.text? with
    | none => none
    | some seals =>
      if decide seals.Nodup && (load == .full || seals.isEmpty) then some seals else none

/-- A line that passes the field tests of R52. -/
def RawLine.line? (l : RawLine) : Option BookingLine := do
  let direction ← if l.direction = 1 then some LineDirection.drop else if l.direction = 2 then some .pick else none
  let load ← if l.load = 1 then some Load.full else if l.load = 2 then some .empty else none
  let container ← lineContainer? direction l.container
  let sizeClass ← if l.sizeClass = 20 || l.sizeClass = 40 || l.sizeClass = 45 then some l.sizeClass else none
  let seals ← lineSeals? l load
  let primary ← (place? 32 l.primary : Option BlockNo)
  let alternate ← if l.alternate = 0 then some none else ((place? 32 l.alternate : Option BlockNo)).map some
  some { direction, container, sizeClass, load, seals, hold := l.hold, primary, alternate }

/-- Whether two lines are DROP lines that carry the same container number. -/
def sameDrop (a b : BookingLine) : Bool :=
  a.direction == .drop && b.direction == .drop && a.container == b.container

/-- A booking that passes the field tests of R52 (test 2), in state OPEN. -/
def RawBooking.booking? (r : RawBooking) : Option Booking := do
  let tag ← if 1 ≤ r.tag ∧ r.tag ≤ 524287 then some r.tag else none
  let plate ← if r.plate.absent then some none else r.plate.text?.map some
  let line1 ← r.line1.line?
  let line2 ←
    if r.lineCount = 1 then some none
    else if r.lineCount = 2 then
      match r.line2.line? with
      | some l => if sameDrop line1 l then none else some (some l)
      | none => none
    else none
  some { state := .opened, tag, period := r.period, plate, line1, line2 }

/-- The insertion for one line (R53): nothing for a PICK line; else whether it was indexed. A failure is counted. -/
def State.insertLine (i : Nat) (l : BookingLine) (s : State) : State × LineIndexed :=
  match l.dropKey with
  | none => (s, none)
  | some key =>
    match s.store.insertIndex key i with
    | some t => (s.setStore t, some true)
    | none => (s.count .insertFailures, some false)

/-- The insertions of a booking's lines, in line order. -/
def State.insertLines (i : Nat) (b : Booking) (s : State) : State × LineIndexed × LineIndexed :=
  let (s1, x1) := s.insertLine i b.line1
  match b.line2 with
  | none => (s1, x1, none)
  | some l =>
    let (s2, x2) := s1.insertLine i l
    (s2, x1, x2)

/-- A state with the status and the results of a request. -/
abbrev Answer := State × Status × Results

/-- A refusal: nothing changes and no results are carried (R166, section 11.4). -/
def refuse (st : Status) (s : State) : Answer := (s, st, .none)

/-- BOOKING_WRITE within its access (R52, R53). -/
def State.bookingWrite (r : RawBooking) (s : State) : Answer :=
  if bookingCapacity s.store.partition ≤ r.index then refuse .badIndex s
  else
    match r.booking? with
    | none => refuse .badRecord s
    | some b =>
      if (readCell r.index s.store.bookings).isSome then refuse .inUse s
      else
        match s.ring.window? b.period with
        | none => refuse .notFound s
        | some w =>
          if w.capacity ≤ w.booked then refuse .tableFull s
          else
            let s1 := (s.setStore (s.store.setBooking r.index b)).setRing
              (s.ring.modWindow b.period (fun w => { w with booked := w.booked + 1 }))
            let (s2, x1, x2) := s1.insertLines r.index b
            if x1 = some false ∨ x2 = some false then (s2, .indexPartial, .bookingIndexed x1 x2)
            else (s2, .ok, .none)

/-- The index test and the tag test of R54, and the record they leave (none: FREE). -/
def State.bookingTests (i : Nat) (tag : Option Nat) (s : State) : Except Status (Option Booking) :=
  if bookingCapacity s.store.partition ≤ i then .error .badIndex
  else
    match readCell i s.store.bookings, tag with
    | none, some _ => .error .notFound
    | none, none => .ok none
    | some b, none => .ok (some b)
    | some b, some t => if b.tag = t then .ok (some b) else .error .notFound

/-- The booked count of a period lowered by one (R54, R55). -/
def Ring.dropBooked (r : Ring) (p : Nat) : Ring := r.modWindow p (fun w => { w with booked := w.booked - 1 })

/-- BOOKING_CANCEL within its access (R54). -/
def State.bookingCancel (i : Nat) (tag : Option Nat) (s : State) : Answer :=
  match s.bookingTests i tag with
  | .error e => refuse e s
  | .ok none => refuse .wrongState s
  | .ok (some b) =>
    match b.state with
    | .opened =>
      ((s.setStore (s.store.setBooking i { b with state := .cancelled })).setRing (s.ring.dropBooked b.period),
        .ok, .none)
    | _ => refuse .wrongState s

/-- The removal for one line (R55). -/
def TableStore.removeLine (t : TableStore) (i : Nat) (l : BookingLine) : TableStore :=
  match l.dropKey with
  | none => t
  | some key => t.removeIndex key i

/-- BOOKING_DELETE within its access (R55). -/
def State.bookingDelete (i : Nat) (tag : Option Nat) (s : State) : Answer :=
  match s.bookingTests i tag with
  | .error e => refuse e s
  | .ok none => refuse .wrongState s
  | .ok (some b) =>
    let t := b.lines.foldl (fun t l => t.removeLine i l) s.store
    let s1 := s.setStore { t with bookings := clearCell i t.bookings }
    match b.state with
    | .cancelled => (s1, .ok, .none)
    | _ => (s1.setRing (s1.ring.dropBooked b.period), .ok, .none)

/-- Whether a line is indexed; nothing for a PICK line (R56). -/
def TableStore.lineIndexed (t : TableStore) (i : Nat) (l : BookingLine) : LineIndexed :=
  l.dropKey.map (fun key => t.indexed key i)

/-- BOOKING_READ within its access (R56). -/
def State.bookingRead (i : Nat) (tag : Option Nat) (s : State) : Answer :=
  match s.bookingTests i tag with
  | .error e => refuse e s
  | .ok none => (s, .ok, .booking none none none)
  | .ok (some b) =>
    (s, .ok, .booking (some b) (s.store.lineIndexed i b.line1)
      (match b.line2 with
       | some l => s.store.lineIndexed i l
       | none => none))

/-- The clear of the whole store under a partition setting (R58). -/
def State.clearStore (g : Nat) (s : State) : State :=
  (s.setStore { s.store with partition := g, bookings := [], index := [] }).setRing s.ring.clearBooked

/-! ### The arbiter (R49) -/

/-- The arbiter's choice for a free store: the check unit's waiting access before the management unit's. -/
def TableStore.grant (t : TableStore) : TableStore :=
  match t.granted with
  | some _ => t
  | none =>
    match t.checkWaiting with
    | some a => { t with granted := some (.check a false), checkWaiting := none }
    | none =>
      match t.mgmtWaiting with
      | some m => { t with granted := some (.mgmt m), mgmtWaiting := none }
      | none => t

/-- The granted access completes: the store is free, and the arbiter grants at once an access that waits then
(R49: "When the store becomes free"). -/
def TableStore.release (t : TableStore) : TableStore := { t with granted := none }.grant

/-- The check unit's access arrives at the arbiter. After a warm reset it may wait behind the access that the reset
abandoned, which still holds the store (R60): R49's "at most one access" of each block is read as not counting that one
(DESIGN CHOICE, log entry 24). -/
def State.requestCheck (a : CheckAccess) (s : State) : State :=
  s.setStore { s.store with checkWaiting := some a }

/-- The management unit's access arrives at the arbiter. -/
def State.requestMgmt (a : MgmtAccess) (s : State) : State :=
  s.setStore { s.store with mgmtWaiting := some a }

end Sys2Proof.Machine
end

