-- ==== Sys2Proof/Machine/Engine.lean ====
section
/-! DEFINITION. The direction engine (chapter 9) with what its completions reach: the report queue (R174), the
staging rows and the promotion of lane-waiting visits (R141, R142), the barriers (R158–R162).

A point is served by a loop that sends, or retires what cannot be sent, until something is in display or nothing is
left (R151). What a completion at a lane point hands on never issues a direction; what a completion at point 13 or 14
hands on may issue directions at lane points only. So the loop is written once, over what it hands on to. -/

namespace Sys2Proof.Machine

open Sys2Proof

/-! ### The report queue (R174) -/

/-- A visit's report is placed: the record copied to the tail of the queue under the next report number, the record
back on the free list, REPORT_QUEUE_HIGH raised at 12 or more (R174, R1). -/
def State.placeReport (r : RecNo) (s : State) : State :=
  let q := s.mgmt.reportQueue ++ [⟨s.mgmt.reportNumber, s.mgmt.clock, s.visit r⟩]
  let t : State :=
    { s with
      mgmt := { s.mgmt with reportQueue := q, reportNumber := (s.mgmt.reportNumber + 1) % 65536 }
      asm := { s.asm with
        visits := updAt s.asm.visits r (fun v => { v with state := .free, number := 0 })
        freeList := s.asm.freeList ++ [r] } }
  t.raiseLevel .reportQueueHigh (decide (12 ≤ q.length))

/-- A visit in REPORTING is handed to the report queue, or joins the report-wait list (R174). -/
def State.enterReporting (r : RecNo) (s : State) : State :=
  let t := s.setVisitState r .reporting
  if t.mgmt.reportQueue.length < 16 ∧ t.mgmt.reportWait = [] then t.placeReport r
  else { t with mgmt := { t.mgmt with reportWait := t.mgmt.reportWait ++ [r] } }

/-- A report of the queue has been sent: it leaves, and the oldest waiting visit's report is placed (R174, R175). -/
def State.reportSent (s : State) : State :=
  let t : State := { s with mgmt := { s.mgmt with reportQueue := s.mgmt.reportQueue.tail } }
  match t.mgmt.reportWait with
  | [] => t
  | r :: rest => State.placeReport r { t with mgmt := { t.mgmt with reportWait := rest } }

/-! ### The barrier (R158, R159) -/

/-- The barrier raised for the head of the departure queue (R159). -/
def State.raiseBarrier (l : Lane) (r : RecNo) (s : State) : State :=
  let t := (s.modBarrier l (fun _ => ⟨true, some s.mgmt.params.barrierLimit⟩)).setVisitState r .atBarrier
  match t.barrierStation l with
  | some st => t.placeLane ⟨false, .barrierRaise st l (t.visit r).number⟩
  | none => t.raise .barrierFault

/-- The barrier test of a lane (R159). -/
def State.barrierTest (l : Lane) (s : State) : State :=
  match s.departures l with
  | [] => s
  | h :: _ =>
    if !(s.barrier l).raising && (s.visit h.visit).state == .directing && h.done then s.raiseBarrier l h.visit
    else s

/-- The lane-direction-done flag of a visit's entry, set or cleared (R158). -/
def State.setDone (l : Lane) (r : RecNo) (x : Bool) (s : State) : State :=
  s.modDepartures l (fun q => q.map (fun e => if e.visit = r then { e with done := x } else e))

/-! ### What stands at a point (R148) -/

/-- Whether a descriptor or direction is of a visit. -/
def Direction.isOf (d : Direction) (v : Nat) : Bool := d.visit == some v

/-- The direction IN_DISPLAY at a point, with whether it is the urgent slot's. -/
def PointState.displayed? (p : PointState) : Option (Direction × Bool) :=
  match p.urgent with
  | .inDisplay d => some (d, true)
  | _ =>
    match p.queue with
    | h :: _ => if h.inDisplay then some (h.direction, false) else none
    | [] => none

/-- The oldest pending direction for a point, and the list without it. -/
def takePending (p : Point) : List PendingDirection → Option (PendingDirection × List PendingDirection)
  | [] => none
  | x :: rest =>
    if x.point = p then some (x, rest) else (takePending p rest).map (fun y => (y.1, x :: y.2))

/-- Room in a queue is filled by the oldest pending direction for the point (R150). -/
def State.fillQueue (p : Point) (s : State) : State :=
  match takePending p s.engine.pendings with
  | none => s
  | some (x, rest) =>
    if (s.point p).queue.length < 6 then
      (s.setPendings rest).modPoint p (fun q => { q with queue := q.queue ++ [⟨x.direction, false⟩] })
    else s

/-- Whether no later direction of the visit stands at the point: a completed direction was its latest (R154). -/
def State.noLaterDirection (p : Point) (v : Nat) (s : State) : Bool :=
  (s.point p).queue.all (fun d => !d.direction.isOf v)
    && s.engine.pendings.all (fun x => !(x.point == p && x.visit == v))

/-- A retirement: DISPLAY_FAULT raised, and the UNCONFIRMED mark set on the visit the direction names (R154). -/
def State.unconfirmed (d : Direction) (s : State) : State :=
  let t := s.raise .displayFault
  match d.visit with
  | none => t
  | some v =>
    match t.findVisit v with
    | some r => t.mark r .unconfirmed
    | none => t

/-- The urgent leaves its slot, and a follow moves into it (R156). -/
def State.urgentLeaves (p : Point) (s : State) : State :=
  s.modPoint p (fun q =>
    { q with
      urgent := (match q.follow with
        | some d => .ready d
        | none => .empty)
      follow := none })

/-- The head descriptor leaves the queue, and a pending direction fills the room (R150). -/
def State.headLeaves (p : Point) (s : State) : State :=
  State.fillQueue p (s.modPoint p (fun q => { q with queue := q.queue.tail }))

/-- The message in display stops being so: countdown stopped, sequence absent (R152, R153). -/
def State.stopDisplay (p : Point) (s : State) : State :=
  s.modPoint p (fun q => { q with resendCountdown := none, displaySequence := none })

/-- A message is sent from a point to a display station (R151): the sequence number taken, the resend count 0, the
countdown started, the DIRECTION placed. -/
def State.sendFrom (p : Point) (station : Nat) (d : Direction) (urgent : Bool) (s : State) : State :=
  (s.modPoint p (fun q =>
    { q with
      sequence := (q.sequence + 1) % 256
      displaySequence := some q.sequence
      resendCount := 0
      resendCountdown := some s.mgmt.params.resendInterval })).placeLane
    ⟨urgent, .direction station p d (s.point p).sequence⟩

/-- The READY urgent becomes IN_DISPLAY. -/
def State.showUrgent (p : Point) (d : Direction) (s : State) : State :=
  s.modPoint p (fun q => { q with urgent := .inDisplay d })

/-- The head descriptor becomes IN_DISPLAY. -/
def State.showHead (p : Point) (s : State) : State :=
  s.modPoint p (fun q =>
    { q with
      queue := (match q.queue with
        | h :: rest => { h with inDisplay := true } :: rest
        | [] => []) })

/-- What a completed queue direction is handed on to (R154). -/
abbrev HandOn := Point → Direction → State → State

/-- The test of R151 with its repetitions: the urgent, else the head, is sent; a message without a display station is
retired at once and the point tests again. The first argument bounds the repetitions. -/
def State.servePoint (hand : HandOn) (p : Point) : Nat → State → State
  | 0, s => s
  | k + 1, s =>
    match (s.point p).displayed? with
    | some _ => s
    | none =>
      match (s.point p).urgent, (s.point p).queue with
      | .ready d, _ =>
        match s.displayStation p with
        | some st => (s.showUrgent p d).sendFrom p st d true
        | none => State.servePoint hand p k ((s.urgentLeaves p).unconfirmed d)
      | _, h :: _ =>
        match s.displayStation p with
        | some st => (s.showHead p).sendFrom p st h.direction false
        | none => State.servePoint hand p k (hand p h.direction ((s.headLeaves p).unconfirmed h.direction))
      | _, [] => s

/-- Enough repetitions for all that stands at a point or waits for it. -/
def State.serveBound (p : Point) (s : State) : Nat :=
  (s.point p).queue.length + s.engine.pendings.length + 3

/-- A completion at a lane point (R154): the visit's latest direction sets its done flag and the barrier is tested. -/
def laneHandOn : HandOn := fun p d s =>
  match pointLane? p, d.visit with
  | some l, some v =>
    if s.noLaterDirection p v then
      match s.findVisit v with
      | some r => (s.setDone l r true).barrierTest l
      | none => s
    else s
  | _, _ => s

/-- The test of R151 at a lane point. -/
def State.serveLane (p : Point) (s : State) : State := State.servePoint laneHandOn p (s.serveBound p) s

/-- Steps 1 and 2 of R149, before the sending: the earlier direction withdrawn or discarded, its room filled, the done
flag cleared at a lane point, and the new direction queued or pending. -/
def State.enterDirection (v : Nat) (p : Point) (d : Direction) (s : State) : State :=
  let s1 := s.setPendings (s.engine.pendings.filter (fun x => !(x.visit == v && x.point == p)))
  let isEarlier : Descriptor → Bool := fun x => x.direction.isOf v && !x.inDisplay
  let s2 :=
    if (s1.point p).queue.any isEarlier then
      State.fillQueue p (s1.modPoint p (fun q => { q with queue := q.queue.filter (fun x => !isEarlier x) }))
    else s1
  let s3 :=
    match pointLane? p, s2.findVisit v with
    | some l, some r => s2.setDone l r false
    | _, _ => s2
  if (s3.point p).queue.length < 6 then
    s3.modPoint p (fun q => { q with queue := q.queue ++ [⟨d, false⟩] })
  else s3.setPendings (s3.engine.pendings.filter (fun x => !(x.visit == v)) ++ [⟨v, p, d⟩])

/-- A direction issued for a visit at its lane point (R149). -/
def State.issueLane (v : Nat) (l : Lane) (d : Direction) (s : State) : State :=
  (s.enterDirection v (lanePoint l) d).serveLane (lanePoint l)

/-! ### Staging rows and promotion (R134, R141, R142) -/

/-- The lowest free row among rows 1 to the staging-rows parameter (R128, R134). -/
def State.freeRow? (s : State) : Option RowNo :=
  (List.finRange 24).find? (fun r => decide (r.val < s.mgmt.params.stagingRows) && s.rowState r == .free)

/-- One promotion (R142): the visit of an entry already taken off the list is sent to a row. -/
def State.promoteTo (row : RowNo) (r : RecNo) (s : State) : State :=
  let n := (s.visit r).number
  ((s.setRow row (.reserved n)).modVisit r
    (fun v => { v with row := some row, disposition := some .staged, state := .directing })).issueLane n
    (s.visit r).lane { kind := .stage, visit := some n, row := some row }

/-- The promotion of lane-waiting visits while rows are free (R142). The first argument bounds the promotions. -/
def State.promote : Nat → State → State
  | 0, s => s
  | k + 1, s =>
    match s.pacer.laneWait, s.freeRow? with
    | e :: rest, some row =>
      let t := s.setLaneWait rest
      match t.findVisit e.visit with
      | some r => State.promote k (t.promoteTo row r)
      | none => State.promote k t
    | _, _ => s

/-- The promotion of as many as can be (R142). -/
def State.promoteAll (s : State) : State := State.promote s.pacer.laneWait.length s

/-- A release direction completed: the staged entry leaves, its row is freed and visits are promoted (R141). -/
def State.releaseDone (v : Nat) (s : State) : State :=
  match s.pacer.staged.find? (fun e => e.visit == v) with
  | none => s
  | some e =>
    let t := s.setStaged (s.pacer.staged.filter (fun x => !(x.visit == v)))
    match e.location with
    | .bay => t
    | .row row => (t.setRow row .free).promoteAll

/-- A completion at point 13 or 14 (R154, R163): a RELEASING visit is finished. -/
def boardHandOn : HandOn := fun _ d s =>
  match d.visit with
  | none => s
  | some v =>
    match s.findVisit v with
    | none => s
    | some r =>
      if (s.visit r).state = .releasing then
        State.enterReporting r ((s.setVisitState r .reporting).releaseDone v)
      else s

/-- The test of R151 at point 13 or 14. -/
def State.serveBoard (p : Point) (s : State) : State := State.servePoint boardHandOn p (s.serveBound p) s

/-- The test of R151 at any point. -/
def State.serve (p : Point) (s : State) : State :=
  match pointLane? p with
  | some _ => s.serveLane p
  | none => s.serveBoard p

/-- What a completion at any point hands on (R154). -/
def handOn : HandOn := fun p d s =>
  match pointLane? p with
  | some _ => laneHandOn p d s
  | none => boardHandOn p d s

/-- A direction issued for a visit at point 13 or 14 (R149). -/
def State.issueBoard (v : Nat) (p : Point) (d : Direction) (s : State) : State :=
  (s.enterDirection v p d).serveBoard p

/-! ### Completion, resend and urgents -/

/-- The message in display completes, SHOWN or retired (R152, R153): it leaves, it is handed on, the point tests. -/
def State.completeDisplay (p : Point) (retired : Bool) (s : State) : State :=
  match (s.point p).displayed? with
  | none => s
  | some (d, true) =>
    let t := (s.stopDisplay p).urgentLeaves p
    State.serve p (if retired then t.unconfirmed d else t)
  | some (d, false) =>
    let t := (s.stopDisplay p).headLeaves p
    State.serve p (handOn p d (if retired then t.unconfirmed d else t))

/-- A SHOWN report at a point (R152). -/
def State.shown (p : Point) (sequence : Nat) (s : State) : State :=
  if (s.point p).displayed?.isSome && (s.point p).displaySequence == some sequence then s.completeDisplay p false
  else s.count .staleShown

/-- A resend countdown has reached 0 (R153): resent with the same sequence, or retired UNCONFIRMED. -/
def State.resendExpired (p : Point) (s : State) : State :=
  match (s.point p).displayed?, s.displayStation p with
  | none, _ => s.modPoint p (fun q => { q with resendCountdown := none })
  | some _, none => s.completeDisplay p true
  | some (d, urgent), some st =>
    if (s.point p).resendCount < s.mgmt.params.resendLimit then
      (s.modPoint p (fun q =>
        { q with
          resendCount := q.resendCount + 1
          resendCountdown := some s.mgmt.params.resendInterval })).placeLane
        ⟨urgent, .direction st p d ((s.point p).displaySequence.getD 0)⟩
    else s.completeDisplay p true

/-- A barrier countdown has reached 0 (R161). -/
def State.barrierExpired (l : Lane) (s : State) : State :=
  (s.modBarrier l (fun b => { b with countdown := none })).raise .barrierFault

/-- An urgent placed at a point (R155). -/
def State.placeUrgent (p : Point) (d : Direction) (s : State) : State × UrgentPlacement :=
  match (s.point p).urgent with
  | .empty => (State.serve p (s.modPoint p (fun q => { q with urgent := .ready d })), .becameReady)
  | .ready _ =>
    ((s.modPoint p (fun q => { q with urgent := .ready d })).count .urgentReplacements, .replaced)
  | .inDisplay _ =>
    let t := s.modPoint p (fun q => { q with follow := some d })
    ((if (s.point p).follow.isSome then t.count .urgentReplacements else t), .toFollow)

/-- A truck with a reserved row reaches the staging lot (R136). -/
def State.arriveAtLot (r : RecNo) (row : RowNo) (s : State) : State :=
  let v := s.visit r
  let t := (s.setVisitState r .staged).setRow row (.occupied v.number)
  match v.dispatch with
  | none => t
  | some b =>
    t.setStaged (t.pacer.staged ++
      [{ visit := v.number, block := b, alternate := v.alternate, location := .row row, waited := 0,
         timedOut := false, released := false }])

/-- The row that a visit holds reserved (R134). -/
def State.reservedRow? (r : RecNo) (s : State) : Option RowNo :=
  match (s.visit r).row with
  | some row => if s.rowState row = .reserved (s.visit r).number then some row else none
  | none => none

/-- A visit finishes at its barrier: its final disposition set, then REPORTING (TABLE 9-3). -/
def State.finishAtBarrier (r : RecNo) (f : FinalDisposition) (s : State) : State :=
  State.enterReporting r (s.modVisit r (fun v => { v with finalDisposition := some f }))

/-- A truck sent to inspection passes its barrier (TABLE 9-3). -/
def State.becomeHeld (r : RecNo) (s : State) : State :=
  (s.modVisit r (fun v => { v with state := .held, finalDisposition := some .inspection })).raise .heldVisit

/-- A visit moves on after passing its barrier: the first row of TABLE 9-3 that holds. -/
def State.movesOn (r : RecNo) (s : State) : State :=
  if (s.visit r).disposition = some .dispatched then s.finishAtBarrier r .dispatched
  else if (s.visit r).outcome = some .trouble then s.finishAtBarrier r .trouble
  else if (s.visit r).outcome = some .turnedAway then s.finishAtBarrier r .turnedAway
  else if (s.visit r).disposition = some .staged then
    match s.reservedRow? r with
    | some row => s.arriveAtLot r row
    | none => s
  else if (s.visit r).outcome = some .inspection then s.becomeHeld r
  else s

/-- A pass at a lane whose barrier is RAISING (R160): the record of the visit that passed, and the state after. -/
def State.pass (l : Lane) (s : State) : Option RecNo × State :=
  let t := s.modBarrier l (fun _ => ⟨false, none⟩)
  match t.departures l with
  | [] => (none, t)
  | h :: rest =>
    (some h.visit, State.barrierTest l (State.movesOn h.visit (t.modDepartures l (fun _ => rest))))

end Sys2Proof.Machine
end

