-- ==== Sys2Proof/Machine/Pacer.lean ====
section
/-! DEFINITION. The admission pacer (chapters 7 and 8): block parameters, feedback, debit, accrual, the dispatch
request, release service and the staging limit. -/

namespace Sys2Proof.Machine

open Sys2Proof

/-- The most credit a block holds: burst × 57,600 (R111). -/
def BlockParams.cap (p : BlockParams) : Nat := p.burst * truckCredit

/-- The field tests of BLOCK_WRITE and BLOCK_TUNE (R112, test 2). -/
def BlockParams.legal (p : BlockParams) : Bool :=
  decide (p.pdr ≤ 16383) && decide (p.mdr ≤ 16383) && decide (p.idr ≤ 16383)
    && decide (p.mdr ≤ p.idr) && decide (p.idr ≤ p.pdr) && decide (p.ais ≤ 4095)
    && decide (p.df ≤ 255) && decide (p.mrl ≤ 255) && decide (1 ≤ p.burst) && decide (p.burst ≤ 15)
    && decide (p.idleReset ≤ 65535)

/-- A block freshly written (R112). -/
def YardBlock.fresh (p : BlockParams) : YardBlock :=
  { written := true, active := true, params := p, adr := p.idr, credit := 0, dsf := 0,
    idleCountdown := p.idleReset, feedbackLost := false }

/-- A block tuned (R113). -/
def YardBlock.tuned (b : YardBlock) (p : BlockParams) : YardBlock :=
  { b with
    params := p
    adr := max (min b.adr p.pdr) p.mdr
    credit := min b.credit p.cap
    idleCountdown := min b.idleCountdown p.idleReset }

/-- A block after a warm reset (R132). -/
def YardBlock.rewarmed (b : YardBlock) : YardBlock :=
  { b with adr := b.params.idr, credit := 0, dsf := 0, idleCountdown := b.params.idleReset, feedbackLost := false }

/-- The ADR less its decrease, floor(ADR × DF / 256) (R117, R121). -/
def YardBlock.decreased (b : YardBlock) : Nat := b.adr - b.adr * b.params.df / 256

/-- The feedback update of an ACTIVE block (R117); an explicit rate above 16,383 is taken as 16,383 (R116). -/
def YardBlock.feedback (b : YardBlock) (ci ni : Bool) (er : Option Nat) : YardBlock :=
  let stepped := if ci then b.decreased else if ni then b.adr else b.adr + b.params.ais
  let capped := min stepped b.params.pdr
  let ceiled :=
    match er with
    | some e => min capped (min e 16383)
    | none => capped
  { b with adr := max ceiled b.params.mdr, dsf := 0, feedbackLost := false }

/-- A YARD_STATE taken by the pacer (R116). -/
def State.takeYardState (number : Nat) (ci ni : Bool) (er : Option Nat) (s : State) : State :=
  match (place? 32 number : Option BlockNo) with
  | some b =>
    if (s.block b).written && (s.block b).active then s.modBlock b (fun x => x.feedback ci ni er)
    else s.count .unknownFeedback
  | none => s.count .unknownFeedback

/-- Whether a block can be debited: ACTIVE with one truck's credit (R119). -/
def State.canDebit (b : BlockNo) (s : State) : Bool :=
  (s.block b).active && decide (truckCredit ≤ (s.block b).credit)

/-- Steps 1 to 3 of a debit (R120). -/
def YardBlock.debited (b : YardBlock) : YardBlock :=
  { b with credit := b.credit - truckCredit, dsf := satInc max16 b.dsf, idleCountdown := b.params.idleReset }

/-- Whether the missing-report test is met (R121). -/
def YardBlock.missingReport (b : YardBlock) : Bool := b.params.mrl != 0 && decide (b.params.mrl ≤ b.dsf)

/-- The missing-report decrease (R121). -/
def YardBlock.missed (b : YardBlock) : YardBlock :=
  { b with adr := max b.decreased b.params.mdr, dsf := 0, feedbackLost := true }

/-- A debit of a block with its missing-report test (R120, R121). -/
def State.debit (b : BlockNo) (s : State) : State :=
  let x := (s.block b).debited
  if x.missingReport then
    let t := s.modBlock b (fun _ => x.missed)
    if x.feedbackLost then t else t.raise .feedbackLost
  else s.modBlock b (fun _ => x)

/-- The accrual of a second event (R122). -/
def YardBlock.accrued (b : YardBlock) : YardBlock := { b with credit := min (b.credit + b.adr) b.params.cap }

/-- The idle countdown reaches 0: ADR falls back to IDR when above it (R123). -/
def YardBlock.idleExpired (b : YardBlock) : YardBlock :=
  { b with idleCountdown := 0, adr := min b.adr b.params.idr }

/-- The idle countdown step of a second event (R123). -/
def YardBlock.idleStep (b : YardBlock) : YardBlock :=
  if b.params.idleReset = 0 ∨ b.idleCountdown = 0 then b
  else if b.idleCountdown = 1 then b.idleExpired
  else { b with idleCountdown := b.idleCountdown - 1 }

/-! ### The dispatch request (R125–R129) -/

/-- Where a dispatch request comes from (R125). -/
inductive RequestFrom where
  | lane (l : Lane)
  | bay
  deriving DecidableEq, Repr

/-- Whether a block is open to a direct dispatch (R126). -/
def State.blockOpen (b : BlockNo) (s : State) : Bool :=
  s.canDebit b && s.pacer.staged.all (fun e => e.block != b) && s.pacer.laneWait.all (fun e => e.block != b)

/-- Whether an optional block is present and open (R126). -/
def State.openBlock? (b : Option BlockNo) (s : State) : Option BlockNo :=
  match b with
  | some b => if s.blockOpen b then some b else none
  | none => none

/-- The PROCEED direction into a block for a visit (R127). -/
def proceed (v : Nat) (b : BlockNo) : Direction := { kind := .proceed, visit := some v, block := some b }

/-- A request decided DISPATCHED into the chosen block (R127). -/
def State.dispatchTo (r : RecNo) (b : BlockNo) (viaAlternate : Bool) (loc : RequestFrom) (s : State) : State :=
  let n := (s.visit r).number
  let t := (s.debit b).modVisit r (fun v =>
    { v with
      disposition := some .dispatched
      dispatch := if viaAlternate then some b else v.dispatch
      alternate := if viaAlternate then none else v.alternate })
  match loc with
  | .lane l => (t.setVisitState r .directing).issueLane n l (proceed n b)
  | .bay =>
    (t.modVisit r (fun v => { v with state := .releasing, finalDisposition := some .dispatched })).issueBoard n
      inspectionBoard (proceed n b)

/-- A request from the bay decided STAGED (R128). -/
def State.stageAtBay (r : RecNo) (s : State) : State :=
  let v := s.visit r
  let t := s.modVisit r (fun v => { v with disposition := some .staged, state := .staged })
  match v.dispatch with
  | none => t
  | some b =>
    t.setStaged (t.pacer.staged ++
      [{ visit := v.number, block := b, alternate := v.alternate, location := .bay, waited := 0,
         timedOut := false, released := false }])

/-- A request from a lane decided STAGED with a row (R128). -/
def State.stageInRow (r : RecNo) (l : Lane) (row : RowNo) (s : State) : State :=
  let n := (s.visit r).number
  ((s.setRow row (.reserved n)).modVisit r
    (fun v => { v with row := some row, disposition := some .staged, state := .directing })).issueLane n l
    { kind := .stage, visit := some n, row := some row }

/-- A request from a lane decided WAITING_IN_LANE (R129). -/
def State.waitInLane (r : RecNo) (l : Lane) (s : State) : State :=
  let n := (s.visit r).number
  let t := s.modVisit r (fun v => { v with disposition := some .waitingInLane, state := .waitingInLane })
  let u : State :=
    match (s.visit r).dispatch with
    | some b => t.setLaneWait (t.pacer.laneWait ++ [LaneWaitEntry.mk n b])
    | none => t
  u.issueLane n l { kind := .wait, visit := some n }

/-- A dispatch request: the first row of TABLE 7-5 that applies (R126), with the block debited or the staging. -/
def State.dispatchRequest (r : RecNo) (loc : RequestFrom) (s : State) : State × DispatchResult :=
  match s.openBlock? (s.visit r).dispatch with
  | some b => (s.dispatchTo r b false loc, .dispatched b)
  | none =>
    match s.openBlock? (s.visit r).alternate with
    | some b => (s.dispatchTo r b true loc, .dispatched b)
    | none =>
      match loc with
      | .bay => (s.stageAtBay r, .staged)
      | .lane l =>
        match s.freeRow? with
        | some row => (s.stageInRow r l row, .staged)
        | none => (s.waitInLane r l, .waitingInLane)

/-! ### Release service (R137, R138) and the staging limit (R139, R140) -/

/-- The point of a staged entry's release direction (R137). -/
def StagedAt.board : StagedAt → Point
  | .row _ => stagingBoard
  | .bay => inspectionBoard

/-- The staged entry of a visit changed. -/
def State.modStaged (v : Nat) (f : StagedEntry → StagedEntry) (s : State) : State :=
  s.setStaged (s.pacer.staged.map (fun e => if e.visit = v then f e else e))

/-- The visit with a number changed, when a record carries it. -/
def State.modNumbered (n : Nat) (f : Visit → Visit) (s : State) : State :=
  match s.findVisit n with
  | some r => s.modVisit r f
  | none => s

/-- A staged entry released into a block already debited (R137, steps 2 to 4). -/
def State.releaseStaged (e : StagedEntry) (b : BlockNo) (s : State) : State :=
  ((s.modStaged e.visit (fun x => { x with released := true })).modNumbered e.visit
    (fun v => { v with state := .releasing, finalDisposition := some .dispatched })).issueBoard e.visit
    e.location.board (proceed e.visit b)

/-- The staged part of a block's release service (R137). The first argument bounds the releases. -/
def State.serveStaged (b : BlockNo) : Nat → State → State
  | 0, s => s
  | k + 1, s =>
    if s.canDebit b then
      match s.pacer.staged.find? (fun e => e.block == b && !e.released) with
      | some e => State.serveStaged b k ((s.debit b).releaseStaged e b)
      | none => s
    else s

/-- A lane-waiting visit released to its lane point (R138). -/
def State.releaseLaneWaiting (e : LaneWaitEntry) (b : BlockNo) (s : State) : State :=
  let t := (s.debit b).setLaneWait (s.pacer.laneWait.filter (fun x => x.visit != e.visit))
  match t.findVisit e.visit with
  | none => t
  | some r =>
    (t.modVisit r (fun v => { v with disposition := some .dispatched, state := .directing })).issueLane e.visit
      (t.visit r).lane (proceed e.visit b)

/-- The lane-wait part of a block's release service (R138). The first argument bounds the releases. -/
def State.serveLaneWait (b : BlockNo) : Nat → State → State
  | 0, s => s
  | k + 1, s =>
    if s.canDebit b then
      match s.pacer.laneWait.find? (fun e => e.block == b) with
      | some e => State.serveLaneWait b k (s.releaseLaneWaiting e b)
      | none => s
    else s

/-- The release service of a block (R137, R138). -/
def State.releaseService (b : BlockNo) (s : State) : State :=
  let t := State.serveStaged b s.pacer.staged.length s
  State.serveLaneWait b t.pacer.laneWait.length t

/-- One block's part of a second event (R122, R124). -/
def State.blockSecond (b : BlockNo) (s : State) : State :=
  if (s.block b).active then (s.modBlock b (fun x => x.accrued.idleStep)).releaseService b else s

/-- The waited seconds of an unreleased entry rise, and the timed-out flag is set at the limit (R139). -/
def StagedEntry.waitOne (limit : Nat) (e : StagedEntry) : StagedEntry :=
  if e.released then e
  else
    { e with
      waited := satInc max16 e.waited
      timedOut := e.timedOut || decide (limit ≤ satInc max16 e.waited) }

/-- Whether an entry times out at this staging-limit work (R139). -/
def StagedEntry.timesOut (limit : Nat) (e : StagedEntry) : Bool :=
  !e.released && !e.timedOut && decide (limit ≤ satInc max16 e.waited)

/-- The first part of the staging-limit work (R139). -/
def State.waitStaged (s : State) : State :=
  let limit := s.mgmt.params.stagingLimit
  let t := s.setStaged (s.pacer.staged.map (fun e => e.waitOne limit))
  if s.pacer.staged.any (fun e => e.timesOut limit) then t.raise .stagingLong else t

/-- A timed-out entry tested for its alternate, and released through it (R140). -/
def State.serveAlternate (n : Nat) (s : State) : State :=
  match s.pacer.staged.find? (fun e => e.visit == n) with
  | none => s
  | some e =>
    if e.timedOut && !e.released then
      match e.alternate with
      | none => s
      | some a =>
        if s.canDebit a then
          (((s.debit a).modStaged n (fun x => { x with block := a, alternate := none })).modNumbered n
            (fun v => { v with dispatch := some a, alternate := none })).releaseStaged e a
        else s
    else s

/-- The staging-limit work (R139, R140): the entries in queue order. -/
def State.stagingWork (s : State) : State :=
  let t := s.waitStaged
  (t.pacer.staged.map StagedEntry.visit).foldl (fun u n => u.serveAlternate n) t

/-- The pacer's part of a second event (R122). -/
def State.pacerSecond (s : State) : State := (forEach 32 (fun b t => t.blockSecond b) s).stagingWork

end Sys2Proof.Machine
end

