-- ==== Sys2Proof/Machine/Watch.lean ====
section
/-! DEFINITION. The watch matcher (chapter 6, sections 6.4 to 6.7): keys, hits, arrival-time calls and at-close
matching. -/

namespace Sys2Proof.Machine

open Sys2Proof

/-- A visit value that a watch entry is compared with. -/
inductive WatchValue where
  | text (t : Text)
  | reference (n : Nat)
  deriving DecidableEq, Repr

/-- Whether a text value equals a key text under a compare length (R98). -/
def textMatches (key : Text) (len : Nat) (value : Text) : Bool :=
  if len = 11 then value == key
  else
    let j := min len key.length
    decide (j ≤ value.length) && value.take j == key.take j

/-- Whether two references agree above the m lowest bits (R98). -/
def referenceMatches (key m value : Nat) : Bool := key / 2 ^ m == value / 2 ^ m

/-- Whether a key compares equal with a value (R98). -/
def WatchKey.equals : WatchKey → WatchValue → Bool
  | .text key len, .text t => textMatches key len t
  | .reference key m, .reference n => referenceMatches key m n
  | _, _ => false

/-- The final kept values of a visit for a key kind (R96, R103). -/
def Visit.watchValues (v : Visit) : KeyKind → List WatchValue
  | .plate => (v.plate.map (fun p => WatchValue.text p.text)).toList
  | .driver => (v.credential.map WatchValue.text).toList
  | .booking => (v.reference.map WatchValue.reference).toList
  | .container =>
    (v.pos1.container.map (fun c => WatchValue.text c.number)).toList
      ++ (v.pos2.container.map (fun c => WatchValue.text c.number)).toList
  | .seal =>
    v.pos1.seals.map (fun e => WatchValue.text e.text) ++ v.pos2.seals.map (fun e => WatchValue.text e.text)

/-- Whether a valid entry hits a visit in a matching that passes these values (R99). -/
def WatchEntry.hits (e : WatchEntry) (i : Nat) (values : List WatchValue) (v : Visit) : Bool :=
  e.valid && values.any (fun x => e.key.equals x)
    && (match e.predecessor with
        | some p => v.hitSet.contains p
        | none => true)
    && !v.hitSet.contains i

/-- The rank of an action, weakest first (TABLE 6-5). -/
def WatchAction.rank : WatchAction → Nat
  | .note => 0
  | .hold => 1
  | .stopNow => 2

/-- The stronger of the strongest action so far and a new one (R100). -/
def strengthen (old : Option WatchAction) (a : WatchAction) : Option WatchAction :=
  match old with
  | none => some a
  | some b => if b.rank < a.rank then some a else some b

/-- A hit recorded in a visit (R100). -/
def Visit.recordHit (v : Visit) (i : Nat) (e : WatchEntry) : Visit :=
  { v with
    hitSet := insertRising i v.hitSet
    hitList := if v.hitList.length < 4 then v.hitList ++ [⟨i, e.action, e.timing⟩] else v.hitList
    strongest := strengthen v.strongest e.action }

/-- A STOP issued for a visit (R102). -/
def State.issueStop (r : RecNo) (s : State) : State :=
  State.mark r .stopIssued
    (s.placeUrgent (lanePoint (s.visit r).lane) { kind := .stop, visit := some (s.visit r).number }).1

/-- One entry tested in an arrival-time call (R101, R102). -/
def State.testOnArrival (r : RecNo) (kind : KeyKind) (value : WatchValue) (i : Fin 64) (s : State) : State :=
  let e := s.watch[i]
  if e.kind == kind && e.timing == .onArrival && e.hits i.val [value] (s.visit r) then
    let t := s.modVisit r (fun v => v.recordHit i.val e)
    if e.action = .stopNow then t.issueStop r else t
  else s

/-- One pass of an arrival-time call: the entries in ascending number (R101). -/
def State.arrivalPass (r : RecNo) (kind : KeyKind) (value : WatchValue) (s : State) : State :=
  forEach 64 (fun i t => t.testOnArrival r kind value i) s

/-- The passes of an arrival-time call, until one makes no hit (R101). The first argument bounds them: at most 64
passes can make a hit. -/
def State.arrivalPasses (r : RecNo) (kind : KeyKind) (value : WatchValue) : Nat → State → State
  | 0, s => s
  | k + 1, s =>
    let t := s.arrivalPass r kind value
    if (t.visit r).hitSet = (s.visit r).hitSet then t else State.arrivalPasses r kind value k t

/-- An arrival-time call of the watch matcher (R41, R101). -/
def State.watchCall (r : RecNo) (kind : KeyKind) (value : WatchValue) (s : State) : State :=
  State.arrivalPasses r kind value 65 s

/-- One entry tested in at-close matching (R103). -/
def testAtClose (table : Vector WatchEntry 64) (v : Visit) (i : Fin 64) : Visit :=
  let e := table[i]
  if e.timing == .atClose && e.hits i.val (v.watchValues e.kind) v then v.recordHit i.val e else v

/-- One pass of at-close matching (R103). -/
def closePass (table : Vector WatchEntry 64) (v : Visit) : Visit := (List.finRange 64).foldl (testAtClose table) v

/-- The passes of at-close matching, until one makes no hit (R103). -/
def closePasses (table : Vector WatchEntry 64) : Nat → Visit → Visit
  | 0, v => v
  | k + 1, v =>
    let w := closePass table v
    if w.hitSet = v.hitSet then w else closePasses table k w

/-- At-close matching of a visit (R103). -/
def State.matchAtClose (r : RecNo) (s : State) : State := s.modVisit r (closePasses s.watch 65)

end Sys2Proof.Machine
end

