-- ==== Sys2Proof/Machine/Merge.lean ====
section
/-! DEFINITION. The lane intake and the visit assembler (chapters 1 and 2): opening and closing a visit, fragments,
the merge of every kind of read, lane codes and alert latches. -/

namespace Sys2Proof.Machine

open Sys2Proof

/-! ### Opening (R3, R12, R13) -/

/-- The visit number after another: 65535 advances to 1 (R3). -/
def succNumber (n : Nat) : Nat := if n = 65535 then 1 else n + 1

/-- The first visit number, from a value on, that no record in use carries (R3). The first argument bounds the
search: 48 records can carry at most 48 numbers. -/
def State.freshNumber (s : State) : Nat → Nat → Nat
  | 0, n => n
  | k + 1, n => if (s.findVisit n).isSome then s.freshNumber k (succNumber n) else n

/-- VISIT_STORE_LOW when 4 or fewer records are free (R4). -/
def State.storeLow (s : State) : State :=
  s.raiseLevel .visitStoreLow (decide (s.asm.freeList.length ≤ 4))

/-- A visit opened for a lane in the record at the head of the free list (R13). -/
def State.openVisit (l : Lane) (r : RecNo) (rest : List RecNo) (s : State) : State :=
  let n := s.freshNumber 48 s.asm.nextNumber
  let t : State :=
    { s with
      asm :=
        { visits := updAt s.asm.visits r
            (fun _ => { number := n, state := .assembling, lane := l, openedAt := s.mgmt.clock })
          freeList := rest
          nextNumber := succNumber n
          lanes := updAt s.asm.lanes l
            (fun x => { x with openVisit := some r, idleCountdown := some s.mgmt.params.idleLimit }) } }
  (t.countLane l .visitsOpened).storeLow

/-! ### Closing (R20) -/

/-- The ASSEMBLING visit of a lane closed with a reason (R20). -/
def State.closeRecord (l : Lane) (r : RecNo) (reason : CloseReason) (s : State) : State :=
  let t := s.modVisit r (fun v =>
    { v with state := .checking, closedAt := some s.mgmt.clock, closeReason := some reason })
  let u : State := { t with check := { t.check with queue := t.check.queue ++ [r] } }
  (u.modDepartures l (fun q => q ++ [⟨r, false⟩])).modLane l
    (fun x => { x with openVisit := none, idleCountdown := none })

/-- The lane's ASSEMBLING visit closed, when there is one, with the visit number closed, or 0 (R22, R23). -/
def State.closeLane (l : Lane) (reason : CloseReason) (s : State) : State × Nat :=
  match (s.lane l).openVisit with
  | some r => (s.closeRecord l r reason, (s.visit r).number)
  | none => (s, 0)

/-- A lane's idle countdown has reached 0: it stops, and the lane's visit closes with reason IDLE (R15). -/
def State.idleExpired (l : Lane) (s : State) : State :=
  ((s.closeLane l .idle).1).modLane l (fun x => { x with idleCountdown := none })

/-- One lane's part of a second event (R15). -/
def State.laneSecond (l : Lane) (s : State) : State :=
  match (s.lane l).idleCountdown with
  | none => s
  | some n =>
    if n ≤ 1 then s.idleExpired l
    else s.modLane l (fun x => { x with idleCountdown := some (n - 1) })

/-- The assembler's part of a second event, the lanes in ascending number (R15). -/
def State.assemblerSecond (s : State) : State := forEach 12 (fun l t => t.laneSecond l) s

/-! ### Fragments (R14) -/

/-- A report counted for the visit of a lane: the fragment count, the idle countdown restarted, and past 32 the
OVERFLOW mark and the discarded count (R14, R15). -/
def State.takeFragment (l : Lane) (r : RecNo) (s : State) : State :=
  let n := satInc max16 (s.visit r).fragments
  (s.modVisit r (fun v =>
    if 33 ≤ n then
      { v with fragments := n, discarded := satInc max16 v.discarded, marks := v.marks.add .overflow }
    else { v with fragments := n })).modLane l
    (fun x => { x with idleCountdown := some s.mgmt.params.idleLimit })

/-! ### The check digit (R37) -/

/-- The value of a letter: upward from A = 10, skipping 11, 22 and 33 (TABLE 2-3). -/
def letterValue (b : Byte) : Nat :=
  let i := b.toNat - 65
  if i = 0 then 10 else if i ≤ 10 then i + 11 else if i ≤ 20 then i + 12 else i + 13

/-- The value of a character (R37, step 1). -/
def charValue (b : Byte) : Nat := if isDigit b then digitValue b else letterValue b

/-- The weighted sum of characters, the first with the given weight, each next with twice as much (R37, step 2). -/
def weightedSum (weight : Nat) : Text → Nat
  | [] => 0
  | b :: rest => charValue b * weight + weightedSum (2 * weight) rest

/-- The check value of a number's first ten characters (R37). -/
def checkValue (t : Text) : Nat := weightedSum 1 (t.take 10) % 11 % 10

/-- The verified flag of a number text (R37). -/
def verified (t : Text) : Bool :=
  isContainerNumber t && ((t.drop 10).head?.map digitValue == some (checkValue t))

/-! ### The merge of each kind (R32–R41) -/

/-- The position a report names (R33). -/
def pos? (n : Nat) : Option Pos := if n = 1 then some .one else if n = 2 then some .two else none

/-- A plate read merged into a visit (TABLE 2-2), with whether the kept value changed. -/
def Visit.mergePlate (v : Visit) (t : Text) (c : Nat) : Visit × Bool :=
  match v.plate with
  | none => ({ v with plate := some ⟨t, c⟩ }, true)
  | some p =>
    if p.text = t then
      if p.confidence < c then ({ v with plate := some ⟨t, c⟩ }, false) else (v, false)
    else if p.confidence < c then ({ v with plate := some ⟨t, c⟩ }, true)
    else if c = p.confidence then ({ v with marks := v.marks.add .plateConflict }, false)
    else (v, false)

/-- A container read merged at a position (TABLE 2-5), with whether the kept value changed. -/
def Visit.mergeContainer (v : Visit) (p : Pos) (n : Text) (size c : Nat) : Visit × Bool :=
  let read : Container := ⟨n, verified n, size, c⟩
  let keep : Visit := v.modAt (fun d => { d with container := some read }) p
  match (v.at p).container with
  | none => (keep, true)
  | some k =>
    if k.number = n then
      (v.modAt (fun d => { d with container := some { k with confidence := max k.confidence c } }) p, false)
    else if k.verified then
      if read.verified then ({ v with marks := v.marks.add .conflict }, false) else (v, false)
    else if read.verified || decide (k.confidence < c) then (keep, true)
    else (v, false)

/-- The results of a seal merge (R39). -/
inductive SealMerge where
  | joined | known | excess
  deriving DecidableEq, Repr

/-- A seal read merged into a seal list (R39). -/
def mergeSeal (q : List SealEntry) (t : Text) (tamper : Bool) : List SealEntry × SealMerge :=
  if q.any (fun e => e.text == t) then
    (q.map (fun e => if e.text = t then { e with tamper := e.tamper || tamper } else e), .known)
  else if q.length < 3 then (q ++ [⟨t, tamper⟩], .joined)
  else (q, .excess)

/-- A damage panel merged (R40): the higher severity is kept. -/
def mergePanel (p : PerPanel (Option Nat)) (k : Panel) (severity : Nat) : PerPanel (Option Nat) :=
  p.put (some (max ((p.get k).getD 0) severity)) k

/-- A PLATE_READ at its merge rule (R34). -/
def State.mergePlate (r : RecNo) (t : Text) (c : Nat) (s : State) : State :=
  let m := (s.visit r).mergePlate t c
  let u := s.modVisit r (fun _ => m.1)
  if m.2 then u.watchCall r .plate (.text t) else u

/-- A CREDENTIAL_READ at its merge rule (R35). -/
def State.mergeCredential (r : RecNo) (t : Text) (s : State) : State :=
  if (s.visit r).credential = some t then s
  else (s.modVisit r (fun v => { v with credential := some t })).watchCall r .driver (.text t)

/-- A BOOKING_ENTRY at its merge rule (R36). -/
def State.mergeBooking (r : RecNo) (ref : Nat) (s : State) : State :=
  if refTag ref = 0 then s.count .zeroTags
  else if (s.visit r).reference = some ref then s
  else (s.modVisit r (fun v => { v with reference := some ref })).watchCall r .booking (.reference ref)

/-- A CONTAINER_READ at its merge rule (R38). -/
def State.mergeContainer (r : RecNo) (p : Pos) (n : Text) (size c : Nat) (s : State) : State :=
  let m := (s.visit r).mergeContainer p n size c
  let u := s.modVisit r (fun _ => m.1)
  if m.2 then u.watchCall r .container (.text n) else u

/-- A SEAL_READ at its merge rule (R39). -/
def State.mergeSeal (r : RecNo) (p : Pos) (t : Text) (tamper : Bool) (s : State) : State :=
  let m := Machine.mergeSeal ((s.visit r).at p).seals t tamper
  match m.2 with
  | .known => s.modVisit r (fun v => v.modAt (fun d => { d with seals := m.1 }) p)
  | .joined => (s.modVisit r (fun v => v.modAt (fun d => { d with seals := m.1 }) p)).watchCall r .seal (.text t)
  | .excess => s.count .excessSeals

/-- A DAMAGE_PANEL at its merge rule (R40). -/
def State.mergeDamage (r : RecNo) (p : Pos) (k : Panel) (severity : Nat) (s : State) : State :=
  s.modVisit r (fun v => v.modAt (fun d => { d with panels := mergePanel d.panels k severity }) p)

/-- The test of the confidence floor (R32). -/
def State.aboveFloor (c : Nat) (s : State) (merge : State → State) : State :=
  if c < s.mgmt.params.confidenceFloor then s.count .lowConfidence else merge s

/-- The test of the position (R33). -/
def State.atPosition (p : Nat) (s : State) (merge : Pos → State → State) : State :=
  match pos? p with
  | some q => merge q s
  | none => s.count .badPosition

/-- The treatment of a mergeable report whose fragment count is 1–32 (section 2.3). -/
def State.mergeBody (r : RecNo) (b : ReportBody) (s : State) : State :=
  match b with
  | .plate t c => s.aboveFloor c (fun u => u.mergePlate r t c)
  | .container p n size c =>
    s.aboveFloor c (fun u => u.atPosition p (fun q w => w.mergeContainer r q n size c))
  | .credential t => s.mergeCredential r t
  | .booking ref => s.mergeBooking r ref
  | .seal p t tamper c => s.aboveFloor c (fun u => u.atPosition p (fun q w => w.mergeSeal r q t tamper))
  | .damage p k severity => s.atPosition p (fun q w => w.mergeDamage r q k severity)
  | .signal _ => s
  | .shown _ => s
  | .passed => s

/-- A mergeable report taken for a visit (R14). -/
def State.takeFor (l : Lane) (r : RecNo) (b : ReportBody) (s : State) : State :=
  let t := s.takeFragment l r
  if (t.visit r).fragments ≤ 32 then t.mergeBody r b else t

/-- A mergeable report handled for its lane (R12). -/
def State.mergeable (l : Lane) (b : ReportBody) (s : State) : State :=
  match (s.lane l).state with
  | .closed => s.countLane l .closedDiscards
  | .opened =>
    match (s.lane l).openVisit with
    | some r => s.takeFor l r b
    | none =>
      match s.asm.freeList with
      | r :: rest => (s.openVisit l r rest).takeFor l r b
      | [] => s.countLane l .busyDiscards

/-! ### Routing (R30, R31) -/

/-- A report from a lane point goes on for its lane, counted there (R9); any other point is misrouted (R31). -/
def State.routeLane (p : Point) (s : State) (go : Lane → State → State) : State :=
  match pointLane? p with
  | some l => go l (s.countLane l .reportsTaken)
  | none => s.count .misrouted

/-- A taken mergeable report classified and routed (R30, R31). -/
def State.routeMergeable (x : LaneReport) (s : State) : State :=
  match s.stationOf x.station with
  | none => s.count .unknownStations
  | some e => s.routeLane e.point (fun l t => t.mergeable l x.body)

/-! ### Lane codes (R16–R19) -/

/-- The comparison of a code with the lane code table: it stops at an end marker; the first equal code decides. -/
def codeMode? (n : Nat) : List CodeEntry → Option CodeMode
  | [] => none
  | e :: rest => if e.endMarker then none else if e.code = n then some e.mode else codeMode? n rest

/-- An alert code latched for a lane (R17). -/
def State.latchAlert (l : Lane) (n : Nat) (s : State) : State :=
  let t : State :=
    { s with intake := { s.intake with latches := updAt s.intake.latches l (fun _ => some ⟨n, s.mgmt.clock⟩) } }
  match s.intake.latches[l] with
  | none => t.raise .laneAlert
  | some _ => t.count .alertOverwrites

/-- A code taken for a visit is appended to its code list, when there is room and the count allows (R16). -/
def Visit.canKeepCode (v : Visit) : Bool := decide (v.fragments ≤ 32) && decide (v.codes.length < 4)

/-- The code appended. -/
def Visit.keepCode (v : Visit) (n : Nat) : Visit := { v with codes := v.codes ++ [n] }

/-- A SIGNAL handled for its lane (R16). -/
def State.signal (l : Lane) (n : Nat) (s : State) : State :=
  match codeMode? n s.intake.codes.toList, (s.lane l).openVisit with
  | some .alert, _ => s.latchAlert l n
  | some .close, none => s.count .orphanCloses
  | some .close, some r =>
    let t := s.takeFragment l r
    let u := if (t.visit r).canKeepCode then t.modVisit r (fun v => v.keepCode n) else t
    u.closeRecord l r .code
  | none, none => s.count .unkeptCodes
  | none, some r =>
    let t := s.takeFragment l r
    if (t.visit r).canKeepCode then t.modVisit r (fun v => v.keepCode n) else t.count .unkeptCodes

/-- A taken SIGNAL classified and routed (R30, R31). -/
def State.routeSignal (station n : Nat) (s : State) : State :=
  match s.stationOf station with
  | none => s.count .unknownStations
  | some e => s.routeLane e.point (fun l t => t.signal l n)

/-- A taken SHOWN classified and routed (R30, R31, R152). -/
def State.routeShown (station sequence : Nat) (s : State) : State :=
  match s.stationOf station with
  | none => s.count .unknownStations
  | some e => if e.role = .display then s.shown e.point sequence else s.count .misrouted

/-- A PASSED for a lane (R160). -/
def State.passed (l : Lane) (s : State) : State :=
  if (s.barrier l).raising then (s.pass l).2 else s.count .passedWhileDown

/-- A taken PASSED classified and routed (R30, R31). -/
def State.routePassed (station : Nat) (s : State) : State :=
  match s.stationOf station with
  | none => s.count .unknownStations
  | some e =>
    match e.role, pointLane? e.point with
    | .barrier, some l => s.passed l
    | _, _ => s.count .misrouted

/-- A lane report delivered by the link ports (R8), or dropped at a full intake queue (R10). -/
def State.deliverReport (x : LaneReport) (s : State) : State :=
  if s.intake.queue.length < 64 then
    { s with intake := { s.intake with queue := s.intake.queue ++ [x] } }
  else
    let t := s.count .overrunDrops
    let u : State :=
      { t with
        asm := { t.asm with
          visits := Vector.ofFn (fun i =>
            if t.asm.visits[i].state = .assembling then
              { t.asm.visits[i] with marks := t.asm.visits[i].marks.add .gap }
            else t.asm.visits[i]) } }
    if s.intake.overrun then u
    else State.raise .overrun { u with intake := { u.intake with overrun := true } }

/-- The oldest report removed from the intake queue (R8). -/
def State.dropReport (s : State) : State :=
  { s with intake := { s.intake with queue := s.intake.queue.tail } }

end Sys2Proof.Machine
end

