-- ==== Sys2Proof/Machine/Check.lean ====
section
/-! DEFINITION. The check unit (chapters 5 and 6): lookup, window judgement, booking verdict, seal and damage verdicts,
outcome, commitment, re-decision and hand-off. The stages that take no time are made in the step that reaches them;
between steps a check stands in LOOKUP or in COMMIT, waiting for its access (TABLE 5-2). -/

namespace Sys2Proof.Machine

open Sys2Proof

/-! ### Walk-ins and the window judgement (R79, R80) -/

/-- Walk-in resolution (R79): the verdict, and the walk-in block recorded with WALK_IN. -/
def walkInResolution (v : Visit) (walkInBlock : Nat) (reading : Reading) : BookingVerdict × Option BlockNo :=
  if !v.hasContainer then (.walkInRefused, none)
  else
    match (place? 32 walkInBlock : Option BlockNo), reading.walkIn with
    | some b, some (allowance, used) => if used < allowance then (.walkIn, some b) else (.walkInRefused, none)
    | _, _ => (.walkInRefused, none)

/-- The window judgements (TABLE 5-3). -/
inductive Judgement where
  | expired | tooEarly | early | onTime | late
  deriving DecidableEq, Repr

/-- The window judgement of period b by a reading that named it (TABLE 5-3); subtraction stops at 0. -/
def windowJudgement (reading : Reading) (b : Nat) : Judgement :=
  match reading.slot with
  | none => .expired
  | some w =>
    if b < reading.arrival - w.late then .expired
    else if reading.arrival + w.early < b then .tooEarly
    else if reading.arrival < b then .early
    else if b = reading.arrival then .onTime
    else .late

/-! ### The booking verdict (R81–R84) -/

/-- The plate test passes (R82). -/
def plateTest (snapshot : Booking) (v : Visit) : Bool :=
  match snapshot.plate, v.plate with
  | some p, some q => p == q.text
  | _, _ => true

/-- Whether a position's kept number equals a DROP line's container number (R83). -/
def lineMeets (l : BookingLine) (d : PosData) : Bool :=
  l.direction == .drop &&
    (match l.container, d.container with
     | some n, some c => c.number == n
     | _, _ => false)

/-- The pairing (R83): for position 1 and position 2 the DROP line paired with it; line 1 is taken first, each line
by the lowest position not yet paired. -/
def pairing (snapshot : Booking) (v : Visit) : Option LineNo × Option LineNo :=
  let first : Option LineNo × Option LineNo :=
    if lineMeets snapshot.line1 v.pos1 then (some .one, none)
    else if lineMeets snapshot.line1 v.pos2 then (none, some .one)
    else (none, none)
  match snapshot.line2 with
  | none => first
  | some l =>
    if first.1.isNone && lineMeets l v.pos1 then (some .two, first.2)
    else if first.2.isNone && lineMeets l v.pos2 then (first.1, some .two)
    else first

/-- Whether a line needs no pairing or has it (R83). -/
def linePaired (l : BookingLine) (n : LineNo) (p : Option LineNo × Option LineNo) : Bool :=
  l.direction != .drop || p.1 == some n || p.2 == some n

/-- The container test passes (R83). -/
def containerTest (snapshot : Booking) (v : Visit) (p : Option LineNo × Option LineNo) : Bool :=
  linePaired snapshot.line1 .one p
    && (match snapshot.line2 with
        | some l => linePaired l .two p
        | none => true)
    && (v.pos1.container.isNone || p.1.isSome) && (v.pos2.container.isNone || p.2.isSome)

/-- The booking verdict (TABLE 5-5). -/
def bookingVerdict (snapshot : Booking) (v : Visit) (reading : Reading) (p : Option LineNo × Option LineNo) :
    BookingVerdict :=
  match snapshot.state with
  | .cancelled => .cancelled
  | .arrived => .alreadyUsed
  | .opened =>
    match windowJudgement reading snapshot.period with
    | .expired => .expired
    | .tooEarly => .tooEarly
    | j =>
      if !plateTest snapshot v then .plateMismatch
      else if !containerTest snapshot v p then .containerMismatch
      else if snapshot.lines.any BookingLine.hold then .lineHold
      else
        match j with
        | .early => .early
        | .onTime => .onTime
        | _ => .late

/-! ### Seal and damage verdicts (R93–R95) -/

/-- The line of a snapshot. -/
def Booking.line? (b : Booking) : LineNo → Option BookingLine
  | .one => some b.line1
  | .two => b.line2

/-- The seal verdict of a position, with the line paired with it (TABLE 6-1). -/
def judgeSeals (q : List SealEntry) (line : Option BookingLine) : SealVerdict :=
  if q.any SealEntry.tamper then .tamper
  else
    match line with
    | none => .unchecked
    | some l =>
      if l.seals.all (fun t => q.any (fun e => e.text == t)) then
        if q.all (fun e => l.seals.contains e.text) then .isMatch else .extra
      else if q.isEmpty then .missing
      else .mismatch

/-- The panels with their weights, the absent ones left out (R94). -/
def presentPanels (p : PerPanel (Option Nat)) (w : PerPanel Nat) : List (Nat × Nat) :=
  (p.toList.zip w.toList).filterMap (fun x => x.1.map (fun n => (n, x.2)))

/-- The damage score (R94). -/
def damageScore (p : PerPanel (Option Nat)) (w : PerPanel Nat) : Nat :=
  ((presentPanels p w).map (fun x => x.1 * x.2)).sum

/-- The damage score and verdict of a position (TABLE 6-3); the score is absent when UNSCANNED. -/
def judgeDamage (p : PerPanel (Option Nat)) (q : Params) : Option Nat × DamageVerdict :=
  if (presentPanels p q.weights).isEmpty then (none, .unscanned)
  else
    let score := damageScore p q.weights
    if q.surveyThreshold ≤ score ∨ (presentPanels p q.weights).any (fun x => decide (q.stopSeverity ≤ x.1)) then
      (some score, .survey)
    else if q.noteThreshold ≤ score then (some score, .note)
    else (some score, .clean)

/-- The seal verdict written for a position that holds a container (R93). -/
def PosData.sealChecked (d : PosData) (line : Option BookingLine) : PosData :=
  if d.container.isSome then { d with sealVerdict := some (judgeSeals d.seals line) } else d

/-- The damage score and verdict written for a position that holds a container (R94, R95). -/
def PosData.damageChecked (d : PosData) (q : Params) : PosData :=
  if d.container.isSome then
    { d with damageScore := (judgeDamage d.panels q).1, damageVerdict := some (judgeDamage d.panels q).2 }
  else d

/-- The line paired with a position, from the held booking. -/
def CheckContext.pairedLine (c : CheckContext) (n : Option LineNo) : Option BookingLine :=
  match c.held, n with
  | some h, some n => h.snapshot.line? n
  | _, _ => none

/-- The seal verdicts of a visit under a context (R93). -/
def Visit.sealsChecked (v : Visit) (c : CheckContext) : Visit :=
  { v with pos1 := v.pos1.sealChecked (c.pairedLine c.pair1), pos2 := v.pos2.sealChecked (c.pairedLine c.pair2) }

/-- The damage verdicts of a visit (R95). -/
def Visit.damageChecked (v : Visit) (q : Params) : Visit :=
  { v with pos1 := v.pos1.damageChecked q, pos2 := v.pos2.damageChecked q }

/-! ### The outcome (R104, R105) -/

/-- Whether any position has a seal verdict. -/
def Visit.anySeal (v : Visit) (x : SealVerdict) : Bool := v.pos1.sealVerdict == some x || v.pos2.sealVerdict == some x

/-- Whether any position has a damage verdict. -/
def Visit.anyDamage (v : Visit) (x : DamageVerdict) : Bool :=
  v.pos1.damageVerdict == some x || v.pos2.damageVerdict == some x

/-- Group 1 of TABLE 6-9. -/
def Visit.toInspect (v : Visit) : Bool :=
  v.strongest == some .hold || v.strongest == some .stopNow || v.verdict == some .lineHold || v.anySeal .tamper
    || v.anySeal .mismatch || (v.anySeal .missing && !v.marks.gap) || v.anyDamage .survey

/-- Group 2 of TABLE 6-9, given whether the context holds a booking that names a plate. -/
def Visit.inTrouble (v : Visit) (namesPlate : Bool) : Bool :=
  v.marks.overflow || v.marks.conflict || (v.marks.plateConflict && namesPlate) || v.verdict == some .expired
    || v.verdict == some .alreadyUsed || v.verdict == some .plateMismatch || v.verdict == some .containerMismatch
    || (v.marks.gap && (v.anySeal .missing || v.anyDamage .unscanned))

/-- Group 3 of TABLE 6-9. -/
def Visit.toTurnAway (v : Visit) : Bool :=
  v.verdict == some .tooEarly || v.verdict == some .cancelled || v.verdict == some .walkInRefused

/-- The outcome by precedence (TABLE 6-9). -/
def Visit.decidedOutcome (v : Visit) (namesPlate : Bool) : VisitOutcome :=
  if v.toInspect then .inspection
  else if v.inTrouble namesPlate then .trouble
  else if v.toTurnAway then .turnedAway
  else .admitted

/-- Whether the context holds a booking that names a plate (R104). -/
def CheckContext.namesPlate (c : CheckContext) : Bool :=
  match c.held with
  | some h => h.snapshot.plate.isSome
  | none => false

/-- The outcome decided and written into the visit (R104). -/
def State.decideOutcome (c : CheckContext) (s : State) : State :=
  s.modVisit c.visit (fun v => { v with outcome := some (v.decidedOutcome c.namesPlate) })

/-- The booking verdict written into the visit. -/
def State.setVerdict (r : RecNo) (x : BookingVerdict) (s : State) : State :=
  s.modVisit r (fun v => { v with verdict := some x })

/-! ### Hand-off (R89, R90, R106–R108) -/

/-- The line whose blocks a held booking gives: the first DROP line, else line 1 (R89). -/
def Booking.dispatchLine (b : Booking) : BookingLine :=
  (b.lines.find? (fun l => l.direction == .drop)).getD b.line1

/-- The dispatch block and the alternate block at HAND_OFF (R89). -/
def CheckContext.blocks (c : CheckContext) (verdict : Option BookingVerdict) : Option BlockNo × Option BlockNo :=
  match c.held with
  | some h => (some h.snapshot.dispatchLine.primary, h.snapshot.dispatchLine.alternate)
  | none => if verdict = some .walkIn then (c.walkInBlock, none) else (none, none)

/-- The outcome counter of an outcome (R108). -/
def VisitOutcome.counter : VisitOutcome → LaneCounter
  | .admitted => .admitted
  | .turnedAway => .turnedAway
  | .trouble => .trouble
  | .inspection => .inspection

/-- A visit handed to the direction engine with a direction of a kind (R107). -/
def State.handToEngine (r : RecNo) (k : DirectionKind) (s : State) : State :=
  (s.setVisitState r .directing).issueLane (s.visit r).number (s.visit r).lane
    { kind := k, visit := some (s.visit r).number }

/-- A visit handed off by its outcome (R106, TABLE 6-11). -/
def State.handBy (r : RecNo) (o : VisitOutcome) (s : State) : State :=
  match o with
  | .admitted => (s.dispatchRequest r (.lane (s.visit r).lane)).1
  | .trouble => s.handToEngine r .troubleDesk
  | .turnedAway => s.handToEngine r .turnBack
  | .inspection => s.handToEngine r .inspectionBay

/-- Stage HAND_OFF: the blocks set, the outcome counted, the visit handed off, the context discarded (R89, R90). -/
def State.handOff (c : CheckContext) (s : State) : State :=
  let b := c.blocks (s.visit c.visit).verdict
  let t := (s.modVisit c.visit (fun v => { v with dispatch := b.1, alternate := b.2 })).setContext none
  match (t.visit c.visit).outcome with
  | some o => (t.countLane (t.visit c.visit).lane o.counter).handBy c.visit o
  | none => t

/-! ### Commitment and re-decision (R85–R88) -/

/-- Whether an outcome commits (R85). -/
def commits (o : Option VisitOutcome) : Bool := o == some .admitted || o == some .inspection

/-- Whether a verdict calls for a confirm access (R85). -/
def confirms (x : Option BookingVerdict) : Bool :=
  x == some .onTime || x == some .early || x == some .late || x == some .lineHold

/-- The walk-in claim of a visit (R88): refused, the verdict and the outcome are decided again. -/
def State.claimWalkIn (c : CheckContext) (s : State) : State :=
  match s.ring.claim with
  | some r => (s.setRing r).handOff c
  | none => ((((s.setVerdict c.visit .walkInRefused).decideOutcome c).count .redecisions)).handOff c

/-- Stage COMMIT entered with the outcome decided (R85): a confirm access is requested, a walk-in claim is made, or
the stage is skipped. -/
def State.commit (c : CheckContext) (s : State) : State :=
  let v := s.visit c.visit
  if confirms v.verdict && commits v.outcome then
    match c.held with
    | some h => (s.setContext (some { c with stage := .commit })).requestCheck (.confirm h.index h.tag)
    | none => s.handOff c
  else if v.verdict == some .walkIn && commits v.outcome then s.claimWalkIn c
  else s.handOff c

/-- Stages WINDOW and JUDGE, once LOOKUP has ended (R80, R92), and the entry into COMMIT. -/
def State.judge (c : CheckContext) (s : State) : State :=
  let reading := s.ring.reading (c.held.map (fun h => h.snapshot.period))
  let v := s.visit c.visit
  let base : CheckContext :=
    { c with stage := .judge, reading := some reading, candidates := [], searching := none }
  let x : CheckContext × BookingVerdict :=
    match c.held with
    | some h =>
      let p := pairing h.snapshot v
      ({ base with pair1 := p.1, pair2 := p.2 }, bookingVerdict h.snapshot v reading p)
    | none =>
      let w := walkInResolution v s.mgmt.params.walkInBlock reading
      ({ base with pair1 := none, pair2 := none, walkInBlock := w.2 }, w.1)
  let t := (s.setContext (some x.1)).setVerdict c.visit x.2
  let u := t.modVisit c.visit (fun v => (v.sealsChecked x.1).damageChecked s.mgmt.params)
  ((u.matchAtClose c.visit).decideOutcome x.1).commit x.1

/-- A re-decision that keeps the booking (R86): the verdict rewritten, the outcome decided again under R105 (R104). A visit
that was INSPECTION stays so where a condition of group 1 of TABLE 6-9 still holds; the rewritten LINE_HOLD is none
(DEDUCED, log entry 23). -/
def State.redecideKept (c : CheckContext) (x : BookingVerdict) (s : State) : State :=
  (((s.setVerdict c.visit x).decideOutcome c).count .redecisions).handOff c

/-- A re-decision that gives the booking up (R87). -/
def State.redecideGivenUp (c : CheckContext) (s : State) : State :=
  let reading := s.ring.reading none
  let w := walkInResolution (s.visit c.visit) s.mgmt.params.walkInBlock reading
  let c1 : CheckContext :=
    { c with held := none, pair1 := none, pair2 := none, reading := some reading, walkInBlock := w.2 }
  let t := (s.setContext (some c1)).modVisit c.visit
    (fun v => { v with bookingIndex := none, verdict := some w.1 }.sealsChecked c1)
  let u := (t.decideOutcome c1).count .redecisions
  if w.1 == .walkIn && commits (u.visit c.visit).outcome then u.claimWalkIn c1 else u.handOff c1

/-- The result of a confirm access taken by the check that asked for it (R85). -/
def State.afterConfirm (c : CheckContext) (x : ConfirmResult) (s : State) : State :=
  match x with
  | .confirmed => s.handOff c
  | .cancelled => s.redecideKept c .cancelled
  | .alreadyUsed => s.redecideKept c .alreadyUsed
  | .notFound => s.redecideGivenUp c

/-! ### Lookup (R75–R78) -/

/-- A booking is held: the context and the visit's booking index take it, and LOOKUP ends (R77, R78). -/
def State.holdBooking (c : CheckContext) (i : Nat) (b : Booking) (s : State) : State :=
  (s.modVisit c.visit (fun v => { v with bookingIndex := some i })).judge
    { c with held := some ⟨i, b.tag, b⟩ }

/-- An index lookup asked for a position (R78, steps 1 and 3). -/
def State.searchFor (c : CheckContext) (p : Pos) (n : Text) (s : State) : State :=
  (s.setContext (some { c with stage := .lookup, searching := some p, candidates := [] })).requestCheck
    (.lookupContainer n)

/-- The next position to search after one, and its container number (R78, step 3). -/
def Visit.nextSearch (v : Visit) : Option Pos → Option (Pos × Text)
  | none =>
    match v.pos1.container with
    | some k => some (.one, k.number)
    | none => v.pos2.container.map (fun k => (.two, k.number))
  | some .one => v.pos2.container.map (fun k => (.two, k.number))
  | some .two => none

/-- The index path goes on (R78): the lowest candidate is looked up, else the next position is searched, else no
booking is held. -/
def State.nextCandidate (c : CheckContext) (s : State) : State :=
  match c.candidates with
  | i :: rest =>
    (s.setContext (some { c with candidates := rest })).requestCheck (.lookupIndex i)
  | [] =>
    match (s.visit c.visit).nextSearch c.searching with
    | some (p, n) => s.searchFor c p n
    | none => s.judge c

/-- A check starts for the visit at the head of the check queue (R75–R78). -/
def State.startCheck (r : RecNo) (s : State) : State :=
  let c : CheckContext := { visit := r }
  match (s.visit r).reference with
  | some ref => (s.setContext (some c)).requestCheck (.lookupReference ref)
  | none => s.nextCandidate c

end Sys2Proof.Machine
end

