-- ==== Sys2Proof/Machine/Checks.lean ====
section
/-! DEFINITION. The commands of the check unit and the arbiter (R49–R51, R75). A completion belongs to the access that
holds the store; where another access or none holds it, the event does not occur (log entry 3). -/

namespace Sys2Proof.Machine

open Sys2Proof

/-- CHECK_START (R75): the idle check unit takes the oldest visit of the check queue. After a warm reset it does so also
while its abandoned access still holds the store (R60), and the new check's access then waits (DESIGN CHOICE, log
entry 24). -/
def execCheckStart (s : State) : Host.Outcome State Fault Refusal :=
  match s.check.context, s.check.queue with
  | none, r :: rest => done (State.startCheck r { s with check := { s.check with queue := rest } })
  | _, _ => .next s

/-- TABLE_STORE_GRANT (R49): the free store is granted to a waiting access. -/
def execTableStoreGrant (s : State) : Host.Outcome State Fault Refusal := done (s.setStore s.store.grant)

/-- The access in progress has completed and the store is free (R49). -/
def State.releaseStore (s : State) : State := s.setStore s.store.release

/-- BOOKING_LOOKUP (R50): by a reference, or on the index path by an index. An access whose visit a warm reset
abandoned completes and reaches no check (R60). -/
def execBookingLookup (s : State) : Host.Outcome State Fault Refusal :=
  match s.store.granted with
  | some (.check (.lookupReference ref) abandoned) =>
    let t := s.releaseStore
    match abandoned, s.check.context with
    | false, some c =>
      match s.store.lookupReference ref with
      | some b => done (t.holdBooking c (refIndex ref) b)
      | none => done (t.judge c)
    | _, _ => done t
  | some (.check (.lookupIndex i) abandoned) =>
    let t := s.releaseStore
    match abandoned, s.check.context with
    | false, some c =>
      match s.store.booking? i with
      | some b => done (t.holdBooking c i b)
      | none => done (t.nextCandidate c)
    | _, _ => done t
  | _ => .next s

/-- INDEX_LOOKUP (R50): the candidate booking indexes of a container number. -/
def execIndexLookup (s : State) : Host.Outcome State Fault Refusal :=
  match s.store.granted with
  | some (.check (.lookupContainer n) abandoned) =>
    let t := s.releaseStore
    match abandoned, s.check.context with
    | false, some c => done (t.nextCandidate { c with candidates := s.store.lookupContainer n })
    | _, _ => done t
  | _ => .next s

/-- CONFIRM (R51): the access is made whole; the check that asked for it goes on, unless a warm reset abandoned it. -/
def execConfirm (s : State) : Host.Outcome State Fault Refusal :=
  match s.store.granted with
  | some (.check (.confirm i tag) abandoned) =>
    let t := (s.confirmAccess i tag).1.releaseStore
    match abandoned, s.check.context with
    | false, some c => done (t.afterConfirm c (s.confirmAccess i tag).2)
    | _, _ => done t
  | _ => .next s

end Sys2Proof.Machine
end

