-- ==== Sys2Proof/Machine/Events.lean ====
section
/-! DEFINITION. The resets and the time-driven commands: COLD_RESET, the second event and the expiry of each kind of
countdown. The second event itself makes every expiry that it brings about, because the order of a second event's work
is fixed by its rules (R15, R122, R153); an expiry command makes that one countdown's share of a second event when the
share brings it to 0, and is no event otherwise (log entry 4). -/

namespace Sys2Proof.Machine

open Sys2Proof

/-- COLD_RESET (R179): every block at its cold values, the straps read, the gate clock at 0, the cold sweep begun. -/
def execColdReset (unitAddr : Byte) (typeHigh : Bool) (s : State) : Host.Outcome State Fault Refusal :=
  done { State.cold unitAddr typeHigh with pending := s.pending }

/-- A running countdown decremented by one. -/
def tickDown (c : Option Nat) : Option Nat := c.map (fun n => n - 1)

/-- Every running countdown of the direction engine decremented (R153, R161). -/
def State.engineTick (s : State) : State :=
  { s with
    engine := { s.engine with
      points := Vector.ofFn (fun i =>
        { s.engine.points[i] with resendCountdown := tickDown s.engine.points[i].resendCountdown })
      barriers := Vector.ofFn (fun i =>
        { s.engine.barriers[i] with countdown := tickDown s.engine.barriers[i].countdown }) } }

/-- The direction engine's part of a second event (R153, R161): every countdown falls, then the points and after them
the barriers whose countdown reached 0 are treated, in ascending number (DESIGN CHOICE, log entry 5). -/
def State.engineSecond (s : State) : State :=
  forEach 12 (fun l t => if (t.barrier l).countdown = some 0 then t.barrierExpired l else t)
    (forEach 14 (fun p t => if (t.point p).resendCountdown = some 0 then t.resendExpired p else t) s.engineTick)

/-- The gate clock advanced by a mark of the time base (R168). -/
def State.tickClock (s : State) : State := { s with mgmt := { s.mgmt with clock := satInc max32 s.mgmt.clock } }

/-- The ring's part of a second event, at the gate clock as it then stands (R68, R69). -/
def State.ringSecond (s : State) : State := s.setRing (s.ring.second s.mgmt.clock)

/-- SECOND_EVENT (R168): the clock, then the assembler, the window ring, the admission pacer and the direction engine
in the order R168 lists them (log entry 5). -/
def execSecondEvent (s : State) : Host.Outcome State Fault Refusal :=
  done s.tickClock.assemblerSecond.ringSecond.pacerSecond.engineSecond

/-- Whether one decrement brings a running countdown to 0. -/
def runsOut (c : Option Nat) : Bool :=
  match c with
  | some n => decide (n ≤ 1)
  | none => false

/-- IDLE_COUNTDOWN_EXPIRY (R15): the lane's visit closes with reason IDLE and the countdown stops. -/
def execIdleCountdownExpiry (lane : Nat) (s : State) : Host.Outcome State Fault Refusal :=
  match (place? 12 lane : Option Lane) with
  | some l => if runsOut (s.lane l).idleCountdown then done (s.idleExpired l) else .next s
  | none => .next s

/-- RESEND_COUNTDOWN_EXPIRY (R153): the message in display is resent, or retired UNCONFIRMED. -/
def execResendCountdownExpiry (point : Nat) (s : State) : Host.Outcome State Fault Refusal :=
  match (place? 14 point : Option Point) with
  | some p => if runsOut (s.point p).resendCountdown then done (s.resendExpired p) else .next s
  | none => .next s

/-- BARRIER_COUNTDOWN_EXPIRY (R161): the countdown stops and BARRIER_FAULT is raised. -/
def execBarrierCountdownExpiry (lane : Nat) (s : State) : Host.Outcome State Fault Refusal :=
  match (place? 12 lane : Option Lane) with
  | some l => if runsOut (s.barrier l).countdown then done (s.barrierExpired l) else .next s
  | none => .next s

/-- BLOCK_IDLE_COUNTDOWN_EXPIRY (R123): an ACTIVE block's idle countdown falls from 1 to 0, and its ADR falls back to
IDR when above it. -/
def execBlockIdleCountdownExpiry (block : Nat) (s : State) : Host.Outcome State Fault Refusal :=
  match (place? 32 block : Option BlockNo) with
  | some b =>
    if (s.block b).active && (s.block b).params.idleReset != 0 && (s.block b).idleCountdown == 1 then
      done (s.modBlock b YardBlock.idleExpired)
    else .next s
  | none => .next s

/-- STAGING_LIMIT_TIMEOUT (R139): a staged entry's waited seconds reach the staging limit, its timed-out flag is set
and STAGING_LONG is raised. -/
def execStagingLimitTimeout (visit : Nat) (s : State) : Host.Outcome State Fault Refusal :=
  match s.pacer.staged.find? (fun e => e.visit == visit) with
  | some e =>
    if e.timesOut s.mgmt.params.stagingLimit then
      done ((s.modStaged visit (fun x => x.waitOne s.mgmt.params.stagingLimit)).raise .stagingLong)
    else .next s
  | none => .next s

end Sys2Proof.Machine
end

