-- ==== Sys2Proof/Config.lean ====
section
/-! DEFINITION. What the spec leaves free: constants without a body, so that no proof can lean on their values. -/

namespace Sys2Proof

/-- How the part reads a flag byte of a management request that is neither 0 nor 1: TABLE 11-2 gives 0 and 1
only, and no rule tests the byte. DESIGN CHOICE, log entry 7: a free value. -/
opaque Config.oddFlag : Byte → Bool

/-- The padding bytes of a built frame that is shorter than the shortest legal frame: R180 says that padding is
ignored, no rule gives its value. DESIGN CHOICE, log entry 8: a free value. -/
opaque Config.padByte : Nat → Byte

end Sys2Proof
end

