-- ==== Sys2Proof/Machine/Operands.lean ====
section
/-! DEFINITION. The operand forms: how the bytes of a received frame are read (R180, R188, TABLES 11-2 to 11-5), the
header, the lane report bodies, YARD_STATE, and the body of every management request. -/

namespace Sys2Proof.Machine

open Sys2Proof

/-! ### Fields (TABLE 11-2) -/

/-- The byte at a place of a body, as a number. -/
def byteAt (b : List Byte) (i : Nat) : Nat := (b.getD i 0).toNat

/-- A 2-byte number, most significant byte first. -/
def wordAt (b : List Byte) (i : Nat) : Nat := byteAt b i * 256 + byteAt b (i + 1)

/-- A 4-byte number, most significant byte first. -/
def longAt (b : List Byte) (i : Nat) : Nat := wordAt b i * 65536 + wordAt b (i + 2)

/-- A flag: 0 clear, 1 set; how any other byte is read is free (log entry 7). -/
def flagAt (b : List Byte) (i : Nat) : Bool :=
  if b.getD i 0 = 0 then false else if b.getD i 0 = 1 then true else Config.oddFlag (b.getD i 0)

/-- A text field: the length byte and the eleven places. -/
def textAt (b : List Byte) (i : Nat) : RawText := ⟨byteAt b i, (b.drop (i + 1)).take 11⟩

/-- An optional number whose range leaves 0 out: 0 means absent. -/
def optional (n : Nat) : Option Nat := if n = 0 then none else some n

/-! ### The header and the messages of both ports (R180, TABLES 11-3 to 11-5) -/

/-- A well-formed message of the selected type, less what no rule reads. -/
inductive Message where
  | laneReport (r : LaneReport)
  | laneCommand
  | yardState (station block : Nat) (ci ni : Bool) (er : Option Nat)
  | mgmtRequest (station : Nat) (r : Request)
  /-- MGMT_RESPONSE, VISIT_REPORT or NOTICE: accepted at neither port. -/
  | other
  deriving DecidableEq, Repr

/-- The panel of an enumeration code (TABLE 11-3). -/
def panel? (n : Nat) : Option Panel :=
  if n = 1 then some .front else if n = 2 then some .rear else if n = 3 then some .left
  else if n = 4 then some .right else if n = 5 then some .roof else if n = 6 then some .doors else none

/-- Whether a size class is one of the three. -/
def isSizeClass (n : Nat) : Bool := n == 20 || n == 40 || n == 45

/-- A number that passes a field test. -/
def checked (ok : Bool) (n : Nat) : Option Nat := if ok then some n else none

/-- A LANE_REPORT body that passes the length test and the field tests of R180 (TABLE 11-4). -/
def reportBody? (b : List Byte) : Option ReportBody :=
  match byteAt b 0, b.length with
  | 1, 14 => do
    let t ← (textAt b 1).text?
    let c ← checked (byteAt b 13 ≤ 100) (byteAt b 13)
    some (.plate t c)
  | 2, 16 => do
    let t ← (textAt b 2).text?
    let z ← checked (isSizeClass (byteAt b 14)) (byteAt b 14)
    let c ← checked (byteAt b 15 ≤ 100) (byteAt b 15)
    some (.container (byteAt b 1) t z c)
  | 3, 13 => (textAt b 1).text?.map .credential
  | 4, 5 => some (.booking (longAt b 1))
  | 5, 16 => do
    let t ← (textAt b 2).text?
    let tamper ← checked (byteAt b 14 ≤ 1) (byteAt b 14)
    let c ← checked (byteAt b 15 ≤ 100) (byteAt b 15)
    some (.seal (byteAt b 1) t (tamper == 1) c)
  | 6, 4 => do
    let p ← panel? (byteAt b 2)
    let v ← checked (byteAt b 3 ≤ 7) (byteAt b 3)
    some (.damage (byteAt b 1) p v)
  | 7, 2 => (checked (byteAt b 1 ≠ 0) (byteAt b 1)).map .signal
  | 8, 2 => some (.shown (byteAt b 1))
  | 9, 1 => some .passed
  | _, _ => none

/-- Whether a LANE_COMMAND body has its length and its enumerations in their lists (R180, TABLE 11-5). -/
def laneCommandOk (b : List Byte) : Bool :=
  (byteAt b 0 == 1 && b.length == 8 && decide (1 ≤ byteAt b 1) && decide (byteAt b 1 ≤ 9))
    || (byteAt b 0 == 2 && b.length == 3)

/-- A YARD_STATE body of the right length (TABLE 11-5): bits 3–7 of the indications are ignored, and so is the ER
field when its bit is clear. -/
def yardState? (station : Nat) (b : List Byte) : Option Message :=
  if b.length = 4 then
    some (.yardState station (byteAt b 0) ((byteAt b 1).testBit 0) ((byteAt b 1).testBit 1)
      (if (byteAt b 1).testBit 2 then some (wordAt b 2) else none))
  else none

/-- The message of a payload, or nothing when the frame is malformed (R180). -/
def message? (p : List Byte) : Option Message :=
  if p.length < 8 then none
  else if byteAt p 0 ≠ 1 then none
  else if p.length < 8 + wordAt p 6 then none
  else
    let body := (p.drop 8).take (wordAt p 6)
    match byteAt p 1 with
    | 1 => (reportBody? body).map (fun r => .laneReport ⟨byteAt p 2, r⟩)
    | 2 => if laneCommandOk body then some .laneCommand else none
    | 3 => yardState? (byteAt p 2) body
    | 4 => some (.mgmtRequest (byteAt p 2) ⟨wordAt p 4, body⟩)
    | 5 => some .other
    | 6 => some .other
    | 7 => some .other
    | _ => none

/-- Whether a MAC lets a frame through: a good frame check sequence and 64 to 1518 bytes (R180). -/
def frameAccepted (f : Frame) : Bool := f.fcsGood && decide (64 ≤ f.length) && decide (f.length ≤ 1518)

/-! ### Management requests (TABLE 10-1, R188) -/

/-- A watch entry of a WATCH_WRITE body before the tests of R97. -/
structure RawWatch where
  kind : Nat
  text : RawText
  reference : Nat
  compareLength : Nat
  maskWidth : Nat
  action : Nat
  timing : Nat
  predecessor : Nat
  deriving DecidableEq, Repr

/-- A management request of a known kind whose body has its length, each field as carried. -/
inductive MgmtRequest where
  | stationWrite (entry : Nat) (valid : Bool) (number point role : Nat)
  | stationRead (entry : Nat)
  | codeWrite (entry code mode : Nat) (endMarker : Bool)
  | codeRead (entry : Nat)
  | watchWrite (entry : Nat) (valid : Bool) (w : RawWatch)
  | watchRead (entry : Nat)
  | windowWrite (period start length capacity allowance early late : Nat)
  | windowDelete (period : Nat)
  | windowRead (slot : Nat)
  | blockWrite (block : Nat) (p : BlockParams)
  | blockTune (block : Nat) (p : BlockParams)
  | blockDisable (block : Nat)
  | blockRead (block : Nat)
  | bookingWrite (b : RawBooking)
  | bookingCancel (index : Nat) (tag : Option Nat)
  | bookingDelete (index : Nat) (tag : Option Nat)
  | bookingRead (index : Nat) (tag : Option Nat)
  | paramWrite (number value : Nat)
  | paramRead (number value : Nat)
  | setPartition (g : Nat)
  | timeSet (value : Nat)
  | laneOpen (lane : Nat)
  | laneStop (lane : Nat)
  | laneFlush (lane : Nat)
  | visitRead (visit : Nat)
  | visitRelease (visit : Nat) (block : Option Nat)
  | visitReject (visit : Nat)
  | sendUrgent (point kind template : Nat) (visit block row : Option Nat)
  | barrierClear (lane : Nat)
  | noticeAck (classes : Nat)
  | alertRead (lane : Nat)
  | countersRead (clear : Bool)
  | reportHold
  | reportResume
  | warmReset
  | identify
  deriving DecidableEq, Repr

/-- The parameter fields of a block request, in the order of TABLE 7-1. -/
def blockParamsAt (b : List Byte) (i : Nat) : BlockParams :=
  { pdr := wordAt b i, mdr := wordAt b (i + 2), idr := wordAt b (i + 4), ais := wordAt b (i + 6),
    df := byteAt b (i + 8), mrl := byteAt b (i + 9), burst := byteAt b (i + 10), idleReset := wordAt b (i + 11) }

/-- A booking line of 43 bytes, in the order of TABLE 3-2. -/
def lineAt (b : List Byte) (i : Nat) : RawLine :=
  { direction := byteAt b i, container := textAt b (i + 1), sizeClass := byteAt b (i + 13), load := byteAt b (i + 14),
    sealCount := byteAt b (i + 15), seals := [textAt b (i + 16), textAt b (i + 28)], hold := flagAt b (i + 40),
    primary := byteAt b (i + 41), alternate := byteAt b (i + 42) }

/-- The body length of each request kind: the kind byte and its fields (R166, R188), as log entry 9 reads them. PARAM_READ
carries the parameter number and the value in the same 2 bytes as PARAM_WRITE (R188). -/
def requestLength (kind : Nat) : Nat :=
  match kind with
  | 1 => 6
  | 2 => 2
  | 3 => 5
  | 4 => 2
  | 5 => 25
  | 6 => 2
  | 7 => 17
  | 8 => 5
  | 9 => 2
  | 10 => 15
  | 11 => 15
  | 12 => 2
  | 13 => 2
  | 14 => 110
  | 15 => 7
  | 16 => 7
  | 17 => 7
  | 18 => 4
  | 19 => 4
  | 20 => 2
  | 21 => 5
  | 22 => 2
  | 23 => 2
  | 24 => 2
  | 25 => 3
  | 26 => 4
  | 27 => 3
  | 28 => 8
  | 29 => 2
  | 30 => 3
  | 31 => 2
  | 32 => 2
  | 33 => 1
  | 34 => 1
  | 35 => 1
  | 36 => 1
  | _ => 0

/-- The fields of a request body whose length has been tested, by its kind byte; nothing for an unknown kind. -/
def requestFields? (b : List Byte) : Option MgmtRequest :=
  match byteAt b 0 with
  | 1 => some (.stationWrite (byteAt b 1) (flagAt b 2) (byteAt b 3) (byteAt b 4) (byteAt b 5))
  | 2 => some (.stationRead (byteAt b 1))
  | 3 => some (.codeWrite (byteAt b 1) (byteAt b 2) (byteAt b 3) (flagAt b 4))
  | 4 => some (.codeRead (byteAt b 1))
  | 5 => some (.watchWrite (byteAt b 1) (flagAt b 2)
      { kind := byteAt b 3, text := textAt b 4, reference := longAt b 16, compareLength := byteAt b 20,
        maskWidth := byteAt b 21, action := byteAt b 22, timing := byteAt b 23, predecessor := byteAt b 24 })
  | 6 => some (.watchRead (byteAt b 1))
  | 7 => some (.windowWrite (longAt b 1) (longAt b 5) (wordAt b 9) (wordAt b 11) (wordAt b 13) (byteAt b 15)
      (byteAt b 16))
  | 8 => some (.windowDelete (longAt b 1))
  | 9 => some (.windowRead (byteAt b 1))
  | 10 => some (.blockWrite (byteAt b 1) (blockParamsAt b 2))
  | 11 => some (.blockTune (byteAt b 1) (blockParamsAt b 2))
  | 12 => some (.blockDisable (byteAt b 1))
  | 13 => some (.blockRead (byteAt b 1))
  | 14 => some (.bookingWrite
      { index := wordAt b 1, tag := longAt b 3, period := longAt b 7, plate := textAt b 11, lineCount := byteAt b 23,
        line1 := lineAt b 24, line2 := lineAt b 67 })
  | 15 => some (.bookingCancel (wordAt b 1) (optional (longAt b 3)))
  | 16 => some (.bookingDelete (wordAt b 1) (optional (longAt b 3)))
  | 17 => some (.bookingRead (wordAt b 1) (optional (longAt b 3)))
  | 18 => some (.paramWrite (byteAt b 1) (wordAt b 2))
  | 19 => some (.paramRead (byteAt b 1) (wordAt b 2))
  | 20 => some (.setPartition (byteAt b 1))
  | 21 => some (.timeSet (longAt b 1))
  | 22 => some (.laneOpen (byteAt b 1))
  | 23 => some (.laneStop (byteAt b 1))
  | 24 => some (.laneFlush (byteAt b 1))
  | 25 => some (.visitRead (wordAt b 1))
  | 26 => some (.visitRelease (wordAt b 1) (optional (byteAt b 3)))
  | 27 => some (.visitReject (wordAt b 1))
  | 28 => some (.sendUrgent (byteAt b 1) (byteAt b 2) (byteAt b 3) (optional (wordAt b 4)) (optional (byteAt b 6))
      (optional (byteAt b 7)))
  | 29 => some (.barrierClear (byteAt b 1))
  | 30 => some (.noticeAck (wordAt b 1))
  | 31 => some (.alertRead (byteAt b 1))
  | 32 => some (.countersRead (flagAt b 1))
  | 33 => some .reportHold
  | 34 => some .reportResume
  | 35 => some .warmReset
  | 36 => some .identify
  | _ => none

/-- The request of a body, or nothing for an unknown kind or a wrong body length (R166). -/
def request? (b : List Byte) : Option MgmtRequest :=
  if b.length = requestLength (byteAt b 0) then requestFields? b else none

end Sys2Proof.Machine
end

