-- ==== Sys2Proof/Machine/Requests.lean ====
section
/-! DEFINITION. Taking and answering management requests (R165, R166), and the requests of the tables: stations, lane
codes, watch entries, windows and yard blocks. A request command takes the oldest request of the queue when the
management unit is IDLE and that request is of its kind; the event does not occur otherwise (log entry 3). -/

namespace Sys2Proof.Machine

open Sys2Proof

/-- The oldest request of the queue with the state that has it removed, when the management unit can take it (R165). -/
def State.nextBody? (s : State) : Option (Request × State) :=
  match s.mgmt.unit, s.mgmt.queue with
  | .idle, q :: rest => some (q, { s with mgmt := { s.mgmt with queue := rest } })
  | _, _ => none

/-- The request that can be taken now, of a known kind with its body length (R166): its tag, what it is, and the state
that has it removed. -/
def State.nextRequest? (s : State) : Option (Nat × MgmtRequest × State) :=
  match s.nextBody? with
  | some (q, t) => (request? q.body).map (fun m => (q.tag, m, t))
  | none => none

/-- The response built and handed to the UPLINK port; the unit stays EXECUTING until it has been sent (R166). -/
def State.respond (tag kind : Nat) (st : Status) (res : Results) (s : State) : State :=
  { s with
    mgmt := { s.mgmt with unit := .responding }
    ports := { s.ports with responsePlace := some ⟨tag, kind, st, res⟩ } }

/-- A request answered at its completion. -/
def answer (tag kind : Nat) (a : Answer) : State := a.1.respond tag kind a.2.1 a.2.2

/-- A request carried out and answered with OK. -/
def granted (s : State) (res : Results := .none) : Answer := (s, .ok, res)

/-- BAD_REQUEST (R166): an unknown kind or a wrong body length. The response carries the kind byte as it came, 0 when
the body is empty (log entry 13). -/
def execBadRequest (s : State) : Host.Outcome State Fault Refusal :=
  match s.nextBody? with
  | some (q, t) =>
    match request? q.body with
    | none => done (answer q.tag (byteAt q.body 0) (refuse .badRequest t))
    | some _ => .next s
  | none => .next s

/-! ### Station table (R29) -/

/-- The role of an enumeration code. -/
def role? (n : Nat) : Option Role :=
  if n = 1 then some .sensor else if n = 2 then some .display else if n = 3 then some .barrier else none

/-- A station entry set or emptied. -/
def State.setStation (i : Fin 64) (e : Option Station) (s : State) : State :=
  { s with intake := { s.intake with stations := updAt s.intake.stations i (fun _ => e) } }

/-- Whether a valid entry other than one holds a station number (R29, test 3). -/
def State.stationTaken (i : Fin 64) (n : Nat) (s : State) : Bool :=
  (List.finRange 64).any (fun j =>
    j != i && (match s.intake.stations[j] with
      | some e => e.number == n
      | none => false))

/-- The station an accepted STATION_WRITE names (R29, test 2). -/
def stationFields? (n p r : Nat) : Option Station :=
  match (place? 14 p : Option Point), role? r with
  | some p, some r => if 1 ≤ n ∧ n ≤ 254 then some ⟨n, p, r⟩ else none
  | _, _ => none

/-- STATION_WRITE (R29). -/
def State.stationWrite (i : Nat) (valid : Bool) (n p r : Nat) (s : State) : Answer :=
  if h : i < 64 then
    if valid then
      match stationFields? n p r with
      | none => refuse .badRecord s
      | some e =>
        if s.stationTaken ⟨i, h⟩ e.number then refuse .inUse s else granted (s.setStation ⟨i, h⟩ (some e))
    else granted (s.setStation ⟨i, h⟩ none)
  else refuse .badIndex s

/-- STATION_WRITE. -/
def execStationWrite (s : State) : Host.Outcome State Fault Refusal :=
  match s.nextRequest? with
  | some (tag, .stationWrite i v n p r, t) => done (answer tag 1 (t.stationWrite i v n p r))
  | _ => .next s

/-- STATION_READ (R29). -/
def State.stationRead (i : Nat) (s : State) : Answer :=
  if h : i < 64 then granted s (.station s.intake.stations[i]) else refuse .badIndex s

/-- STATION_READ. -/
def execStationRead (s : State) : Host.Outcome State Fault Refusal :=
  match s.nextRequest? with
  | some (tag, .stationRead i, t) => done (answer tag 2 (t.stationRead i))
  | _ => .next s

/-! ### Lane code table (R18) -/

/-- The mode of an enumeration code. -/
def codeMode (n : Nat) : Option CodeMode := if n = 1 then some .close else if n = 2 then some .alert else none

/-- A code entry set. -/
def State.setCode (i : Fin 8) (e : CodeEntry) (s : State) : State :=
  { s with intake := { s.intake with codes := updAt s.intake.codes i (fun _ => e) } }

/-- CODE_WRITE (R18). -/
def State.codeWrite (i n m : Nat) (endMarker : Bool) (s : State) : Answer :=
  if h : i < 8 then
    match codeMode m with
    | none => refuse .badRecord s
    | some m =>
      if !endMarker && !(decide (1 ≤ n) && decide (n ≤ 255)) then refuse .badRecord s
      else granted (s.setCode ⟨i, h⟩ ⟨n, m, endMarker⟩)
  else refuse .badIndex s

/-- CODE_WRITE. -/
def execCodeWrite (s : State) : Host.Outcome State Fault Refusal :=
  match s.nextRequest? with
  | some (tag, .codeWrite i n m e, t) => done (answer tag 3 (t.codeWrite i n m e))
  | _ => .next s

/-- CODE_READ (R18). -/
def State.codeRead (i : Nat) (s : State) : Answer :=
  if h : i < 8 then granted s (.code s.intake.codes[i]) else refuse .badIndex s

/-- CODE_READ. -/
def execCodeRead (s : State) : Host.Outcome State Fault Refusal :=
  match s.nextRequest? with
  | some (tag, .codeRead i, t) => done (answer tag 4 (t.codeRead i))
  | _ => .next s

/-! ### Watch table (R97) -/

/-- The key kind of an enumeration code. -/
def keyKind? (n : Nat) : Option KeyKind :=
  if n = 1 then some .plate else if n = 2 then some .container else if n = 3 then some .seal
  else if n = 4 then some .driver else if n = 5 then some .booking else none

/-- The action of an enumeration code. -/
def watchAction? (n : Nat) : Option WatchAction :=
  if n = 1 then some .note else if n = 2 then some .hold else if n = 3 then some .stopNow else none

/-- The timing of an enumeration code. -/
def watchTiming? (n : Nat) : Option WatchTiming :=
  if n = 1 then some .onArrival else if n = 2 then some .atClose else none

/-- The key of a WATCH_WRITE, by its kind (R97, test 2). -/
def RawWatch.key? (w : RawWatch) (k : KeyKind) : Option WatchKey :=
  match k with
  | .booking => if w.maskWidth ≤ 31 then some (.reference w.reference w.maskWidth) else none
  | _ =>
    match w.text.text? with
    | some t => if 1 ≤ w.compareLength ∧ w.compareLength ≤ 11 then some (.text t w.compareLength) else none
    | none => none

/-- The entry a WATCH_WRITE with the valid flag set names, when it passes the field tests (R97, test 2). -/
def RawWatch.entry? (w : RawWatch) : Option WatchEntry := do
  let kind ← keyKind? w.kind
  let key ← w.key? kind
  let action ← watchAction? w.action
  let timing ← watchTiming? w.timing
  let predecessor ←
    if w.predecessor = 255 then some none else if w.predecessor ≤ 63 then some (some w.predecessor) else none
  some { valid := true, kind, key, action, timing, predecessor }

/-- A watch entry changed. -/
def State.modWatch (i : Fin 64) (f : WatchEntry → WatchEntry) (s : State) : State :=
  { s with watch := updAt s.watch i f }

/-- WATCH_WRITE (R97). -/
def State.watchWrite (i : Nat) (valid : Bool) (w : RawWatch) (s : State) : Answer :=
  if h : i < 64 then
    if valid then
      match w.entry? with
      | none => refuse .badRecord s
      | some e => granted (s.modWatch ⟨i, h⟩ (fun _ => e))
    else granted (s.modWatch ⟨i, h⟩ (fun e => { e with valid := false }))
  else refuse .badIndex s

/-- WATCH_WRITE. -/
def execWatchWrite (s : State) : Host.Outcome State Fault Refusal :=
  match s.nextRequest? with
  | some (tag, .watchWrite i v w, t) => done (answer tag 5 (t.watchWrite i v w))
  | _ => .next s

/-- WATCH_READ (R97). -/
def State.watchRead (i : Nat) (s : State) : Answer :=
  if h : i < 64 then granted s (.watch s.watch[i]) else refuse .badIndex s

/-- WATCH_READ. -/
def execWatchRead (s : State) : Host.Outcome State Fault Refusal :=
  match s.nextRequest? with
  | some (tag, .watchRead i, t) => done (answer tag 6 (t.watchRead i))
  | _ => .next s

/-! ### Window ring (R63–R66) -/

/-- The field tests of WINDOW_WRITE (R63, test 1). -/
def windowLegal (start length capacity allowance early late : Nat) : Bool :=
  decide (300 ≤ length) && decide (length ≤ 7200) && decide (length % 60 = 0) && decide (start + length ≤ max32)
    && decide (capacity ≤ 4095) && decide (allowance ≤ 4095) && decide (early ≤ 7) && decide (late ≤ 7)

/-- A new window, its counts 0. -/
def newWindow (period start length capacity allowance early late : Nat) : Window :=
  { period, start, length, capacity, booked := 0, arrived := 0, allowance, used := 0, early, late }

/-- A window rewritten, its counts kept (R64). -/
def Window.rewritten (w n : Window) : Window := { n with booked := w.booked, arrived := w.arrived, used := w.used }

/-- A window put into its slot; the gap flag is set when it displaces the arrival period (R64). -/
def Ring.install (r : Ring) (w : Window) : Ring := (r.setSlot (slotOf w.period) (some w)).noteDisplaced

/-- WINDOW_WRITE (R63, R64). -/
def State.windowWrite (n : Window) (s : State) : Answer :=
  if !windowLegal n.start n.length n.capacity n.allowance n.early n.late then refuse .badRecord s
  else
    match s.ring.slots[slotOf n.period] with
    | none => granted (s.setRing (s.ring.install n))
    | some w =>
      if w.period = n.period then
        if n.capacity < w.booked ∨ n.allowance < w.used then refuse .inUse s
        else granted (s.setRing (s.ring.setSlot (slotOf n.period) (some (w.rewritten n))))
      else if 0 < w.booked then refuse .inUse s
      else granted (s.setRing (s.ring.install n))

/-- WINDOW_WRITE. -/
def execWindowWrite (s : State) : Host.Outcome State Fault Refusal :=
  match s.nextRequest? with
  | some (tag, .windowWrite p st len cap al e l, t) =>
    done (answer tag 7 (t.windowWrite (newWindow p st len cap al e l)))
  | _ => .next s

/-- WINDOW_DELETE (R65). -/
def State.windowDelete (p : Nat) (s : State) : Answer :=
  match s.ring.window? p with
  | none => refuse .notFound s
  | some w =>
    if 0 < w.booked then refuse .inUse s
    else granted (s.setRing (s.ring.setSlot (slotOf p) none).noteDisplaced)

/-- WINDOW_DELETE. -/
def execWindowDelete (s : State) : Host.Outcome State Fault Refusal :=
  match s.nextRequest? with
  | some (tag, .windowDelete p, t) => done (answer tag 8 (t.windowDelete p))
  | _ => .next s

/-- WINDOW_READ (R66). -/
def State.windowRead (i : Nat) (s : State) : Answer :=
  if h : i < 96 then
    granted s (.window s.ring.slots[i] (s.ring.slotState s.ring.slots[i]) s.ring.arrival s.ring.gap s.mgmt.clock)
  else refuse .badIndex s

/-- WINDOW_READ. -/
def execWindowRead (s : State) : Host.Outcome State Fault Refusal :=
  match s.nextRequest? with
  | some (tag, .windowRead i, t) => done (answer tag 9 (t.windowRead i))
  | _ => .next s

/-! ### Yard blocks (R112–R115) -/

/-- A request that names a yard block: another number is refused with BAD_INDEX. -/
def State.onBlock (n : Nat) (s : State) (go : BlockNo → Answer) : Answer :=
  match (place? 32 n : Option BlockNo) with
  | some b => go b
  | none => refuse .badIndex s

/-- BLOCK_WRITE (R112). -/
def State.blockWrite (n : Nat) (p : BlockParams) (s : State) : Answer :=
  s.onBlock n (fun b =>
    if p.legal then granted (s.modBlock b (fun _ => YardBlock.fresh p)) else refuse .badRecord s)

/-- BLOCK_WRITE. -/
def execBlockWrite (s : State) : Host.Outcome State Fault Refusal :=
  match s.nextRequest? with
  | some (tag, .blockWrite n p, t) => done (answer tag 10 (t.blockWrite n p))
  | _ => .next s

/-- BLOCK_TUNE (R113). -/
def State.blockTune (n : Nat) (p : BlockParams) (s : State) : Answer :=
  s.onBlock n (fun b =>
    if !p.legal then refuse .badRecord s
    else if !(s.block b).written then refuse .wrongState s
    else granted (s.modBlock b (fun x => x.tuned p)))

/-- BLOCK_TUNE. -/
def execBlockTune (s : State) : Host.Outcome State Fault Refusal :=
  match s.nextRequest? with
  | some (tag, .blockTune n p, t) => done (answer tag 11 (t.blockTune n p))
  | _ => .next s

/-- BLOCK_DISABLE (R114). -/
def State.blockDisable (n : Nat) (s : State) : Answer :=
  s.onBlock n (fun b =>
    if (s.block b).active then granted (s.modBlock b (fun x => { x with active := false }))
    else refuse .wrongState s)

/-- BLOCK_DISABLE. -/
def execBlockDisable (s : State) : Host.Outcome State Fault Refusal :=
  match s.nextRequest? with
  | some (tag, .blockDisable n, t) => done (answer tag 12 (t.blockDisable n))
  | _ => .next s

/-- BLOCK_READ (R115). -/
def State.blockRead (n : Nat) (s : State) : Answer :=
  s.onBlock n (fun b =>
    granted s (.block (s.block b) (s.pacer.staged.countP (fun e => e.block == b))
      (s.pacer.laneWait.countP (fun e => e.block == b))))

/-- BLOCK_READ. -/
def execBlockRead (s : State) : Host.Outcome State Fault Refusal :=
  match s.nextRequest? with
  | some (tag, .blockRead n, t) => done (answer tag 13 (t.blockRead n))
  | _ => .next s

end Sys2Proof.Machine
end

