-- ==== Sys2Proof/Machine/LaneRequests.lean ====
section
/-! DEFINITION. The requests of lanes, visits, directions and barriers (R19, R21–R23, R25, R145, R146, R157, R162). -/

namespace Sys2Proof.Machine

open Sys2Proof

/-- A request that names a lane: another number is refused with BAD_INDEX. -/
def State.onLane (n : Nat) (s : State) (go : Lane → Answer) : Answer :=
  match (place? 12 n : Option Lane) with
  | some l => go l
  | none => refuse .badIndex s

/-- LANE_OPEN (R21). -/
def State.laneOpen (n : Nat) (s : State) : Answer :=
  s.onLane n (fun l =>
    match (s.lane l).state with
    | .closed => granted (s.modLane l (fun x => { x with state := .opened }))
    | .opened => refuse .wrongState s)

/-- LANE_OPEN. -/
def execLaneOpen (s : State) : Host.Outcome State Fault Refusal :=
  match s.nextRequest? with
  | some (tag, .laneOpen n, t) => done (answer tag 22 (t.laneOpen n))
  | _ => .next s

/-- LANE_STOP (R22): the visit closed, the lane CLOSED, the LANE_CLOSED urgent placed, in this order. -/
def State.laneStop (n : Nat) (s : State) : Answer :=
  s.onLane n (fun l =>
    match (s.lane l).state with
    | .closed => refuse .wrongState s
    | .opened =>
      let c := s.closeLane l .laneStop
      granted ((c.1.modLane l (fun x => { x with state := .closed })).placeUrgent (lanePoint l)
        { kind := .laneClosed }).1 (.visitNumber c.2))

/-- LANE_STOP. -/
def execLaneStop (s : State) : Host.Outcome State Fault Refusal :=
  match s.nextRequest? with
  | some (tag, .laneStop n, t) => done (answer tag 23 (t.laneStop n))
  | _ => .next s

/-- LANE_FLUSH (R23). -/
def State.laneFlush (n : Nat) (s : State) : Answer :=
  s.onLane n (fun l => granted (s.closeLane l .flush).1 (.visitNumber (s.closeLane l .flush).2))

/-- LANE_FLUSH. -/
def execLaneFlush (s : State) : Host.Outcome State Fault Refusal :=
  match s.nextRequest? with
  | some (tag, .laneFlush n, t) => done (answer tag 24 (t.laneFlush n))
  | _ => .next s

/-- The pending direction of the visit with a number (TABLE 1-1). -/
def State.pendingOf (n : Nat) (s : State) : Option Direction :=
  (s.engine.pendings.find? (fun x => x.visit == n)).map PendingDirection.direction

/-- VISIT_READ (R25). -/
def State.visitRead (n : Nat) (s : State) : Answer :=
  if n = 0 then refuse .badRecord s
  else
    match s.findVisit n with
    | some r => granted s (.visit (s.visit r) (s.pendingOf n))
    | none => refuse .notFound s

/-- VISIT_READ. -/
def execVisitRead (s : State) : Host.Outcome State Fault Refusal :=
  match s.nextRequest? with
  | some (tag, .visitRead n, t) => done (answer tag 25 (t.visitRead n))
  | _ => .next s

/-- A HELD visit released from the bay, its blocks replaced when a release block is given (R145). -/
def State.releaseHeld (r : RecNo) (b : Option BlockNo) (s : State) : Answer :=
  let t :=
    match b with
    | some b => s.modVisit r (fun v => { v with dispatch := some b, alternate := none })
    | none => s
  granted (t.dispatchRequest r .bay).1 (.release (t.dispatchRequest r .bay).2)

/-- The release block of a VISIT_RELEASE: absent, a block, or out of range (R145, test 1). -/
def releaseBlock? (b : Option Nat) : Option (Option BlockNo) :=
  match b with
  | none => some none
  | some n => ((place? 32 n : Option BlockNo)).map some

/-- VISIT_RELEASE (R145). -/
def State.visitRelease (n : Nat) (b : Option Nat) (s : State) : Answer :=
  match releaseBlock? b with
  | none => refuse .badRecord s
  | some b =>
    if n = 0 then refuse .badRecord s
    else
      match s.findVisit n with
      | none => refuse .notFound s
      | some r =>
        if (s.visit r).state ≠ .held then refuse .wrongState s
        else if b.isNone && (s.visit r).dispatch.isNone then refuse .badRecord s
        else s.releaseHeld r b

/-- VISIT_RELEASE. -/
def execVisitRelease (s : State) : Host.Outcome State Fault Refusal :=
  match s.nextRequest? with
  | some (tag, .visitRelease n b, t) => done (answer tag 26 (t.visitRelease n b))
  | _ => .next s

/-- A HELD visit rejected (R146). -/
def State.rejectHeld (r : RecNo) (s : State) : State :=
  (s.modVisit r (fun v => { v with state := .releasing, finalDisposition := some .turnedAway })).issueBoard
    (s.visit r).number inspectionBoard { kind := .turnBack, visit := some (s.visit r).number }

/-- VISIT_REJECT (R146). -/
def State.visitReject (n : Nat) (s : State) : Answer :=
  if n = 0 then refuse .badRecord s
  else
    match s.findVisit n with
    | none => refuse .notFound s
    | some r => if (s.visit r).state = .held then granted (s.rejectHeld r) else refuse .wrongState s

/-- VISIT_REJECT. -/
def execVisitReject (s : State) : Host.Outcome State Fault Refusal :=
  match s.nextRequest? with
  | some (tag, .visitReject n, t) => done (answer tag 27 (t.visitReject n))
  | _ => .next s

/-- The direction kind of an enumeration code. -/
def directionKind? (n : Nat) : Option DirectionKind :=
  if n = 1 then some .proceed else if n = 2 then some .stage else if n = 3 then some .wait
  else if n = 4 then some .troubleDesk else if n = 5 then some .inspectionBay else if n = 6 then some .turnBack
  else if n = 7 then some .laneClosed else if n = 8 then some .stop else if n = 9 then some .text else none

/-- An optional numbered thing of a request: absent, in range, or out of range. -/
def optionalPlace? (k : Nat) (n : Option Nat) : Option (Option (Fin k)) :=
  match n with
  | none => some none
  | some n => (place? k n).map some

/-- The direction of a SEND_URGENT that passes its tests (R157). -/
def urgentDirection? (kind template : Nat) (visit block row : Option Nat) : Option Direction := do
  let kind ← directionKind? kind
  let template ← if template ≤ 255 then some template else none
  let visit ←
    match visit with
    | none => some none
    | some v => if 1 ≤ v ∧ v ≤ 65535 then some (some v) else none
  let block ← optionalPlace? 32 block
  let row ← optionalPlace? 24 row
  some { kind, visit, block, row, template }

/-- SEND_URGENT (R157). -/
def State.sendUrgent (p kind template : Nat) (visit block row : Option Nat) (s : State) : Answer :=
  match (place? 14 p : Option Point) with
  | none => refuse .badIndex s
  | some p =>
    match urgentDirection? kind template visit block row with
    | none => refuse .badRecord s
    | some d => granted (s.placeUrgent p d).1 (.urgent (s.placeUrgent p d).2)

/-- SEND_URGENT. -/
def execSendUrgent (s : State) : Host.Outcome State Fault Refusal :=
  match s.nextRequest? with
  | some (tag, .sendUrgent p k m v b r, t) => done (answer tag 28 (t.sendUrgent p k m v b r))
  | _ => .next s

/-- BARRIER_CLEAR (R162): acts as a PASSED for the lane, and names the visit that passed. -/
def State.barrierClear (n : Nat) (s : State) : Answer :=
  s.onLane n (fun l =>
    if (s.barrier l).raising then
      granted (s.pass l).2 (.visitNumber (match (s.pass l).1 with
        | some r => (s.visit r).number
        | none => 0))
    else refuse .wrongState s)

/-- BARRIER_CLEAR. -/
def execBarrierClear (s : State) : Host.Outcome State Fault Refusal :=
  match s.nextRequest? with
  | some (tag, .barrierClear n, t) => done (answer tag 29 (t.barrierClear n))
  | _ => .next s

/-- ALERT_READ (R19): the latch is returned and left empty. -/
def State.alertRead (n : Nat) (s : State) : Answer :=
  s.onLane n (fun l =>
    granted { s with intake := { s.intake with latches := updAt s.intake.latches l (fun _ => none) } }
      (.alert s.intake.latches[l]))

/-- ALERT_READ. -/
def execAlertRead (s : State) : Host.Outcome State Fault Refusal :=
  match s.nextRequest? with
  | some (tag, .alertRead n, t) => done (answer tag 31 (t.alertRead n))
  | _ => .next s

end Sys2Proof.Machine
end

