-- ==== Sys2Proof/Machine/Layout.lean ====
section
/-! DEFINITION. The layouts of the messages the part builds (R184–R186, R188, TABLES 11-2 to 11-6): enumeration codes,
field encodings, bodies, and the frames in transmission at the two ports; with them the layouts of the messages it
receives, as their senders build them. -/

namespace Sys2Proof.Machine

open Sys2Proof

/-! ### Fields (TABLE 11-2): most significant byte first -/

/-- A 1-byte number. -/
def enc1 (n : Nat) : List Byte := [BitVec.ofNat 8 n]

/-- A 2-byte number. -/
def enc2 (n : Nat) : List Byte := enc1 (n / 256) ++ enc1 n

/-- A 4-byte number. -/
def enc4 (n : Nat) : List Byte := enc2 (n / 65536) ++ enc2 n

/-- An 8-byte number. -/
def enc8 (n : Nat) : List Byte := enc4 (n / 4294967296) ++ enc4 n

/-- A flag. -/
def encFlag (b : Bool) : List Byte := enc1 b.toNat

/-- Bytes filled up with zeros to a width. -/
def fill (w : Nat) (b : List Byte) : List Byte := b ++ List.replicate (w - b.length) 0

/-- A text of 12 bytes. -/
def encText (t : Text) : List Byte := fill 12 (enc1 t.length ++ t)

/-- An optional text: length 0 when absent. -/
def encText? (t : Option Text) : List Byte := encText (t.getD [])

/-- An optional thing numbered from 1: 0 when absent. -/
def encPlace? (i : Option (Fin k)) : List Byte :=
  enc1 (match i with
    | some i => numberOf i
    | none => 0)

/-- A list of at most `bound` members of `width` bytes each. -/
def encList (bound width : Nat) (members : List (List Byte)) : List Byte :=
  enc1 members.length ++ fill (bound * width) members.flatten

/-- An optional record of a width: every byte 0 when absent. -/
def encRecord? (width : Nat) (r : Option (List Byte)) : List Byte := fill width (r.getD [])

/-! ### Enumeration codes (TABLE 11-3) -/

/-- The code of a visit state. -/
def VisitState.wire : VisitState → Nat
  | .free => 1
  | .assembling => 2
  | .checking => 3
  | .directing => 4
  | .atBarrier => 5
  | .waitingInLane => 6
  | .staged => 7
  | .held => 8
  | .releasing => 9
  | .reporting => 10

/-- The code of a close reason. -/
def CloseReason.wire : CloseReason → Nat
  | .code => 1
  | .idle => 2
  | .flush => 3
  | .laneStop => 4

/-- The code of a booking verdict. -/
def BookingVerdict.wire : BookingVerdict → Nat
  | .onTime => 1
  | .early => 2
  | .late => 3
  | .tooEarly => 4
  | .expired => 5
  | .notFound => 6
  | .cancelled => 7
  | .alreadyUsed => 8
  | .plateMismatch => 9
  | .containerMismatch => 10
  | .lineHold => 11
  | .walkIn => 12
  | .walkInRefused => 13

/-- The code of a seal verdict. -/
def SealVerdict.wire : SealVerdict → Nat
  | .isMatch => 1
  | .extra => 2
  | .missing => 3
  | .mismatch => 4
  | .tamper => 5
  | .unchecked => 6

/-- The code of a damage verdict. -/
def DamageVerdict.wire : DamageVerdict → Nat
  | .clean => 1
  | .note => 2
  | .survey => 3
  | .unscanned => 4

/-- The code of a watch action. -/
def WatchAction.wire : WatchAction → Nat
  | .note => 1
  | .hold => 2
  | .stopNow => 3

/-- The code of a watch timing. -/
def WatchTiming.wire : WatchTiming → Nat
  | .onArrival => 1
  | .atClose => 2

/-- The code of an outcome. -/
def VisitOutcome.wire : VisitOutcome → Nat
  | .admitted => 1
  | .turnedAway => 2
  | .trouble => 3
  | .inspection => 4

/-- The code of a disposition. -/
def Disposition.wire : Disposition → Nat
  | .dispatched => 1
  | .staged => 2
  | .waitingInLane => 3

/-- The code of a final disposition. -/
def FinalDisposition.wire : FinalDisposition → Nat
  | .dispatched => 1
  | .turnedAway => 2
  | .trouble => 3
  | .inspection => 4

/-- The code of a direction kind. -/
def DirectionKind.wire : DirectionKind → Nat
  | .proceed => 1
  | .stage => 2
  | .wait => 3
  | .troubleDesk => 4
  | .inspectionBay => 5
  | .turnBack => 6
  | .laneClosed => 7
  | .stop => 8
  | .text => 9

/-- The code of a station role. -/
def Role.wire : Role → Nat
  | .sensor => 1
  | .display => 2
  | .barrier => 3

/-- The code of a code mode. -/
def CodeMode.wire : CodeMode → Nat
  | .close => 1
  | .alert => 2

/-- The code of a watch key kind. -/
def KeyKind.wire : KeyKind → Nat
  | .plate => 1
  | .container => 2
  | .seal => 3
  | .driver => 4
  | .booking => 5

/-- The code of the state of a record that is not FREE; FREE is 1. -/
def BookingState.wire : BookingState → Nat
  | .opened => 2
  | .arrived => 3
  | .cancelled => 4

/-- The code of a line direction. -/
def LineDirection.wire : LineDirection → Nat
  | .drop => 1
  | .pick => 2

/-- The code of a load. -/
def Load.wire : Load → Nat
  | .full => 1
  | .empty => 2

/-- The code of a window state. -/
def WindowState.wire : WindowState → Nat
  | .empty => 1
  | .future => 2
  | .current => 3
  | .past => 4
  | .closed => 5

/-- The code of an urgent placement. -/
def UrgentPlacement.wire : UrgentPlacement → Nat
  | .becameReady => 1
  | .replaced => 2
  | .toFollow => 3

/-- The code of a status. -/
def Status.wire : Status → Nat
  | .ok => 1
  | .badRequest => 2
  | .badIndex => 3
  | .badRecord => 4
  | .inUse => 5
  | .notFound => 6
  | .wrongState => 7
  | .tableFull => 8
  | .indexPartial => 9
  | .lanesOpen => 10

/-- An optional enumeration: 0 when absent. -/
def encEnum? (wire : α → Nat) (x : Option α) : List Byte := enc1 ((x.map wire).getD 0)

/-! ### The visit record (TABLE 1-1, TABLE 11-6) -/

/-- A kept container: number text, verified flag, size class, confidence; zeros when absent (DEDUCED, log entry 9). -/
def encContainer (c : Option Container) : List Byte :=
  encRecord? 15 (c.map (fun c => encText c.number ++ encFlag c.verified ++ enc1 c.sizeClass ++ enc1 c.confidence))

/-- A seal list: count, then three places of text and tamper flag. -/
def encSeals (q : List SealEntry) : List Byte :=
  encList 3 13 (q.map (fun e => encText e.text ++ encFlag e.tamper))

/-- The six panel severities in panel order, 0xFF when absent. -/
def encPanels (p : PerPanel (Option Nat)) : List Byte := (p.toList.map (fun x => enc1 (x.getD 255))).flatten

/-- A damage score, 0xFFFF when absent. -/
def encScore (n : Option Nat) : List Byte := enc2 (n.getD 65535)

/-- One position of a VISIT_REPORT, 65 bytes (TABLE 11-6). -/
def encPosition (d : PosData) : List Byte :=
  encContainer d.container ++ encSeals d.seals ++ encPanels d.panels ++ encEnum? SealVerdict.wire d.sealVerdict
    ++ encEnum? DamageVerdict.wire d.damageVerdict ++ encScore d.damageScore

/-- The hit set, 8 bytes, bit i of the number for entry i (DEDUCED, log entry 9). -/
def encHitSet (q : List Nat) : List Byte := enc8 ((q.map (fun i => 2 ^ i)).sum)

/-- The hit list: count, then four places of entry, action and timing. -/
def encHits (q : List Hit) : List Byte :=
  encList 4 3 (q.map (fun h => enc1 h.entry ++ enc1 h.action.wire ++ enc1 h.timing.wire))

/-- The fields from the visit number to the marks. -/
def encHead (v : Visit) : List Byte :=
  enc2 v.number ++ enc1 v.state.wire ++ enc1 (numberOf v.lane) ++ enc4 v.openedAt ++ enc4 (v.closedAt.getD max32)
    ++ encEnum? CloseReason.wire v.closeReason ++ enc2 v.fragments ++ enc2 v.discarded ++ enc1 v.marks.toBits

/-- Plate text and confidence, zeros when absent (DEDUCED, log entry 9), credential, booking reference. -/
def encIdentity (v : Visit) : List Byte :=
  encText? (v.plate.map Plate.text) ++ enc1 ((v.plate.map Plate.confidence).getD 0) ++ encText? v.credential
    ++ enc4 (v.reference.getD 0)

/-- The fields from the outcome to the final disposition. -/
def encTail (v : Visit) : List Byte :=
  encEnum? VisitOutcome.wire v.outcome ++ encPlace? v.dispatch ++ encPlace? v.alternate
    ++ encEnum? Disposition.wire v.disposition ++ encPlace? v.row ++ encEnum? FinalDisposition.wire v.finalDisposition

/-- The body of a VISIT_REPORT, 219 bytes (TABLE 11-6). -/
def encReport (r : VisitReport) : List Byte :=
  enc2 r.number ++ enc4 r.clock ++ encHead r.visit ++ encIdentity r.visit ++ encPosition r.visit.pos1
    ++ encPosition r.visit.pos2 ++ encList 4 1 (r.visit.codes.map enc1) ++ encHits r.visit.hitList
    ++ encHitSet r.visit.hitSet ++ encEnum? WatchAction.wire r.visit.strongest
    ++ encEnum? BookingVerdict.wire r.visit.verdict ++ enc2 (r.visit.bookingIndex.getD 65535) ++ encTail r.visit

/-- A direction without its sequence, as an optional record. -/
def encDirection? (d : Option Direction) : List Byte :=
  encRecord? 6 (d.map (fun d =>
    enc1 d.kind.wire ++ enc2 (d.visit.getD 0) ++ encPlace? d.block ++ encPlace? d.row ++ enc1 d.template))

/-- The results of VISIT_READ: the fields of TABLE 1-1 in its order (R25, R188). -/
def encVisitRead (v : Visit) (pending : Option Direction) : List Byte :=
  encHead v ++ encIdentity v ++ encContainer v.pos1.container ++ encContainer v.pos2.container
    ++ encSeals v.pos1.seals ++ encSeals v.pos2.seals ++ encPanels v.pos1.panels ++ encPanels v.pos2.panels
    ++ encList 4 1 (v.codes.map enc1) ++ encHitSet v.hitSet ++ encHits v.hitList
    ++ encEnum? WatchAction.wire v.strongest ++ encEnum? BookingVerdict.wire v.verdict
    ++ enc2 (v.bookingIndex.getD 65535) ++ encEnum? SealVerdict.wire v.pos1.sealVerdict
    ++ encEnum? SealVerdict.wire v.pos2.sealVerdict ++ encScore v.pos1.damageScore
    ++ encEnum? DamageVerdict.wire v.pos1.damageVerdict ++ encScore v.pos2.damageScore
    ++ encEnum? DamageVerdict.wire v.pos2.damageVerdict ++ encTail v ++ encDirection? pending

/-! ### Results of the other requests -/

/-- The key fields of a watch entry in the order of TABLE 6-5: text, reference, compare length, mask width. The fields
that do not apply are absent by TABLE 11-2: a text of length 0, a reference 0, a compare length 0, a mask width 0xFF
(DEDUCED, log entry 9). -/
def encWatchKey : Option WatchKey → List Byte
  | some (.text t n) => encText t ++ enc4 0 ++ enc1 n ++ enc1 255
  | some (.reference n m) => encText [] ++ enc4 n ++ enc1 0 ++ enc1 m
  | none => encText [] ++ enc4 0 ++ enc1 0 ++ enc1 255

/-- A watch entry in the order of TABLE 6-5: every field that is present only when valid is absent from an invalid
entry, and the predecessor is 0xFF when absent (DEDUCED, log entry 9). -/
def encWatch (e : WatchEntry) : List Byte :=
  let shown : Option WatchEntry := if e.valid then some e else none
  encFlag e.valid ++ encEnum? KeyKind.wire (shown.map WatchEntry.kind) ++ encWatchKey (shown.map WatchEntry.key)
    ++ encEnum? WatchAction.wire (shown.map WatchEntry.action) ++ encEnum? WatchTiming.wire (shown.map WatchEntry.timing)
    ++ enc1 (e.predecessor.getD 255)

/-- A window in the order of TABLE 4-1. -/
def encWindow (w : Window) : List Byte :=
  enc4 w.period ++ enc4 w.start ++ enc2 w.length ++ enc2 w.capacity ++ enc2 w.booked ++ enc2 w.arrived
    ++ enc2 w.allowance ++ enc2 w.used ++ enc1 w.early ++ enc1 w.late

/-- A yard block in the order of TABLE 7-1. -/
def encBlock (b : YardBlock) : List Byte :=
  encFlag b.written ++ enc1 (if b.active then 2 else 1) ++ enc2 b.params.pdr ++ enc2 b.params.mdr
    ++ enc2 b.params.idr ++ enc2 b.params.ais ++ enc1 b.params.df ++ enc1 b.params.mrl ++ enc1 b.params.burst
    ++ enc2 b.params.idleReset ++ enc2 b.adr ++ enc4 b.credit ++ enc2 b.dsf ++ enc2 b.idleCountdown
    ++ encFlag b.feedbackLost

/-- A booking line in the order of TABLE 3-2. -/
def encLine (l : BookingLine) : List Byte :=
  enc1 l.direction.wire ++ encText? l.container ++ enc1 l.sizeClass ++ enc1 l.load.wire
    ++ encList 2 12 (l.seals.map encText) ++ encFlag l.hold ++ enc1 (numberOf l.primary) ++ encPlace? l.alternate

/-- A booking in the order of TABLE 3-1. -/
def encBooking (b : Booking) : List Byte :=
  enc1 b.state.wire ++ enc4 b.tag ++ enc4 b.period ++ encText? b.plate ++ enc1 (if b.line2.isSome then 2 else 1)
    ++ encLine b.line1 ++ encRecord? 43 (b.line2.map encLine)

/-- Whether a line is indexed: clear for a line that is not a DROP line. -/
def encIndexed (x : LineIndexed) : List Byte := encFlag (x.getD false)

/-- The per-lane counters, counter by counter in the order of TABLE 10-4, lanes ascending. -/
def encLaneCounters (c : Vector LaneCounters 12) : List Byte :=
  ([LaneCounter.reportsTaken, .visitsOpened, .busyDiscards, .closedDiscards, .admitted, .turnedAway, .trouble,
    .inspection].map (fun k => (c.toList.map (fun x => enc4 (x.get k))).flatten)).flatten

/-- The per-part counters in the order of TABLE 10-4. -/
def encPartCounters (c : PartCounters) : List Byte :=
  ([PartCounter.overrunDrops, .orphanCloses, .unkeptCodes, .alertOverwrites, .unknownStations, .misrouted,
    .lowConfidence, .badPosition, .zeroTags, .excessSeals, .insertFailures, .redecisions, .unknownFeedback,
    .staleShown, .urgentReplacements, .passedWhileDown, .mgmtDrops, .laneToUplinkDrops, .uplinkToLaneDrops,
    .laneCommandDrops, .malformed].map (fun k => enc4 (c.get k))).flatten

/-- The text GLP12, the part code (R177). -/
def partCode : Text := [71, 76, 80, 49, 50]

/-- The type value of a type strap level (TABLE 11-7). -/
def typeValue (high : Bool) : Nat := if high then 0x88B6 else 0x88B5

/-- The result fields of a response, in the order of the owning rule (R188). -/
def encResults : Results → List Byte
  | .none => []
  | .station e => encRecord? 3 (e.map (fun e => enc1 e.number ++ enc1 (numberOf e.point) ++ enc1 e.role.wire))
  | .code e => enc1 e.code ++ enc1 e.mode.wire ++ encFlag e.endMarker
  | .watch e => encWatch e
  | .window w d a g t =>
    encRecord? 22 (w.map encWindow) ++ enc1 d.wire ++ enc4 a ++ encFlag g ++ enc4 t
  | .block b n m => encBlock b ++ enc1 n ++ enc1 m
  | .bookingIndexed x y => encIndexed x ++ encIndexed y
  | .booking b x y =>
    match b with
    | none => enc1 1
    | some b => encBooking b ++ encIndexed x ++ encIndexed y
  | .param n => enc2 n
  | .times a b => enc4 a ++ enc4 b
  | .visitNumber n => enc2 n
  | .visit v p => encVisitRead v p
  | .release r =>
    match r with
    | .dispatched b => enc1 Disposition.dispatched.wire ++ enc1 (numberOf b) ++ enc1 0
    | .staged => enc1 Disposition.staged.wire ++ enc1 0 ++ enc1 2
    | .waitingInLane => enc1 Disposition.waitingInLane.wire ++ enc1 0 ++ enc1 1
  | .urgent p => enc1 p.wire
  | .notices n => enc2 n.toBits
  | .alert a => encRecord? 5 (a.map (fun a => enc1 a.code ++ enc4 a.latchedAt))
  | .counters l p t => encLaneCounters l ++ encPartCounters p ++ enc4 t
  | .reports n m => enc1 n ++ enc1 m
  | .identity u h g c t n =>
    encText partCode ++ enc1 1 ++ [u] ++ enc2 (typeValue h) ++ enc1 g ++ enc2 c ++ enc4 t ++ enc2 n

/-! ### Frames (R184–R186, TABLES 11-4 and 11-5) -/

/-- A frame the part builds: from its own address to the broadcast address, with the selected type, the 8-byte header
and the body, padded to the shortest legal frame (R180, R184). -/
def State.buildFrame (s : State) (cls station lanePoint tag : Nat) (body : List Byte) : Frame :=
  let payload :=
    enc1 1 ++ enc1 cls ++ enc1 station ++ enc1 lanePoint ++ enc2 tag ++ enc2 body.length ++ body
  { dst := BitVec.ofNat 48 0xFFFFFFFFFFFF
    src := BitVec.ofNat 48 (0x020000000000 + s.mgmt.unitAddr.toNat)
    etherType := s.selectedType
    payload := payload ++ (List.range (46 - payload.length)).map Config.padByte
    fcsGood := true }

/-- The body of a MGMT_RESPONSE. -/
def encResponse (r : Response) : List Byte := enc1 r.kind ++ enc1 r.status.wire ++ encResults r.results

/-- The body of a NOTICE. -/
def encNotice (flags : NoticeSet) (clock : Nat) : List Byte := enc2 flags.toBits ++ enc4 clock

/-- The body of a LANE_COMMAND (TABLE 11-5). -/
def encCommand : LaneCommand → List Byte
  | .direction _ _ d q =>
    enc1 1 ++ enc1 d.kind.wire ++ enc1 q ++ enc2 (d.visit.getD 0) ++ encPlace? d.block ++ encPlace? d.row
      ++ enc1 d.template
  | .barrierRaise _ _ v => enc1 2 ++ enc2 v

/-- The header's station and lane-or-point fields of a LANE_COMMAND (R186). -/
def LaneCommand.addressed : LaneCommand → Nat × Nat
  | .direction st p _ _ => (st, numberOf p)
  | .barrierRaise st l _ => (st, numberOf l)

/-- The frame in transmission at the UPLINK port (R185). -/
def State.uplinkOutput (s : State) : Option Frame :=
  let unit := s.mgmt.unitAddr.toNat
  match s.ports.uplinkSending with
  | none => none
  | some (.response r) => some (s.buildFrame 5 unit 0 r.tag (encResponse r))
  | some (.notice f t) => some (s.buildFrame 7 unit 0 0 (encNotice f t))
  | some (.report h) => some (s.buildFrame 6 unit 0 0 (encReport h.report))
  | some .bridged => s.ports.laneToUplink.head?

/-- The frame in transmission at the LANE port (R186). -/
def State.laneOutput (s : State) : Option Frame :=
  match s.ports.laneSending with
  | none => none
  | some (.command c) => some (s.buildFrame 2 c.addressed.1 c.addressed.2 0 (encCommand c))
  | some .bridged => s.ports.uplinkToLane.head?

/-! ### The messages the part receives, as their senders build them (R188, TABLES 11-4 and 11-5) -/

/-- The code of a panel. -/
def Panel.wire : Panel → Nat
  | .front => 1
  | .rear => 2
  | .left => 3
  | .right => 4
  | .roof => 5
  | .doors => 6

/-- The body of a LANE_REPORT (TABLE 11-4). -/
def encReportBody : ReportBody → List Byte
  | .plate t c => enc1 1 ++ encText t ++ enc1 c
  | .container p n z c => enc1 2 ++ enc1 p ++ encText n ++ enc1 z ++ enc1 c
  | .credential t => enc1 3 ++ encText t
  | .booking ref => enc1 4 ++ enc4 ref
  | .seal p t tamper c => enc1 5 ++ enc1 p ++ encText t ++ encFlag tamper ++ enc1 c
  | .damage p k v => enc1 6 ++ enc1 p ++ enc1 k.wire ++ enc1 v
  | .signal n => enc1 7 ++ enc1 n
  | .shown q => enc1 8 ++ enc1 q
  | .passed => enc1 9

/-- A report body whose fields lie within their values (R180); a position is any byte. -/
def ReportBody.legal : ReportBody → Bool
  | .plate t c => validText t && decide (c ≤ 100)
  | .container p n z c => decide (p ≤ 255) && validText n && isSizeClass z && decide (c ≤ 100)
  | .credential t => validText t
  | .booking ref => decide (ref ≤ max32)
  | .seal p t _ c => decide (p ≤ 255) && validText t && decide (c ≤ 100)
  | .damage p _ v => decide (p ≤ 255) && decide (v ≤ 7)
  | .signal n => decide (1 ≤ n) && decide (n ≤ 255)
  | .shown q => decide (q ≤ 255)
  | .passed => true

/-- A payload: the header of TABLE 11-4, the body, and padding. -/
def encPayload (cls station lanePoint tag : Nat) (body padding : List Byte) : List Byte :=
  enc1 1 ++ enc1 cls ++ enc1 station ++ enc1 lanePoint ++ enc2 tag ++ enc2 body.length ++ body ++ padding

/-- The indications of a YARD_STATE: bit 0 CI, bit 1 NI, bit 2 ER present (TABLE 11-5). -/
def encYardState (block : Nat) (ci ni : Bool) (er : Option Nat) : List Byte :=
  enc1 block ++ enc1 (ci.toNat + 2 * ni.toNat + 4 * er.isSome.toNat) ++ enc2 (er.getD 0)

/-- A raw text field. -/
def RawText.enc (r : RawText) : List Byte := enc1 r.length ++ r.places

/-- The parameter fields of a block request, in the order of TABLE 7-1. -/
def BlockParams.enc (p : BlockParams) : List Byte :=
  enc2 p.pdr ++ enc2 p.mdr ++ enc2 p.idr ++ enc2 p.ais ++ enc1 p.df ++ enc1 p.mrl ++ enc1 p.burst ++ enc2 p.idleReset

/-- A line of a BOOKING_WRITE, in the order of TABLE 3-2. -/
def RawLine.enc (l : RawLine) : List Byte :=
  enc1 l.direction ++ l.container.enc ++ enc1 l.sizeClass ++ enc1 l.load ++ enc1 l.sealCount
    ++ (l.seals.map RawText.enc).flatten ++ encFlag l.hold ++ enc1 l.primary ++ enc1 l.alternate

/-- The body of a management request: the kind byte, then the fields the owning rule names in its order (R188). -/
def encRequest : MgmtRequest → List Byte
  | .stationWrite e v n p r => enc1 1 ++ enc1 e ++ encFlag v ++ enc1 n ++ enc1 p ++ enc1 r
  | .stationRead e => enc1 2 ++ enc1 e
  | .codeWrite e c m x => enc1 3 ++ enc1 e ++ enc1 c ++ enc1 m ++ encFlag x
  | .codeRead e => enc1 4 ++ enc1 e
  | .watchWrite e v w =>
    enc1 5 ++ enc1 e ++ encFlag v ++ enc1 w.kind ++ w.text.enc ++ enc4 w.reference ++ enc1 w.compareLength
      ++ enc1 w.maskWidth ++ enc1 w.action ++ enc1 w.timing ++ enc1 w.predecessor
  | .watchRead e => enc1 6 ++ enc1 e
  | .windowWrite p st len cap al e l =>
    enc1 7 ++ enc4 p ++ enc4 st ++ enc2 len ++ enc2 cap ++ enc2 al ++ enc1 e ++ enc1 l
  | .windowDelete p => enc1 8 ++ enc4 p
  | .windowRead i => enc1 9 ++ enc1 i
  | .blockWrite b p => enc1 10 ++ enc1 b ++ p.enc
  | .blockTune b p => enc1 11 ++ enc1 b ++ p.enc
  | .blockDisable b => enc1 12 ++ enc1 b
  | .blockRead b => enc1 13 ++ enc1 b
  | .bookingWrite b =>
    enc1 14 ++ enc2 b.index ++ enc4 b.tag ++ enc4 b.period ++ b.plate.enc ++ enc1 b.lineCount ++ b.line1.enc
      ++ b.line2.enc
  | .bookingCancel i g => enc1 15 ++ enc2 i ++ enc4 (g.getD 0)
  | .bookingDelete i g => enc1 16 ++ enc2 i ++ enc4 (g.getD 0)
  | .bookingRead i g => enc1 17 ++ enc2 i ++ enc4 (g.getD 0)
  | .paramWrite n v => enc1 18 ++ enc1 n ++ enc2 v
  | .paramRead n v => enc1 19 ++ enc1 n ++ enc2 v
  | .setPartition g => enc1 20 ++ enc1 g
  | .timeSet v => enc1 21 ++ enc4 v
  | .laneOpen l => enc1 22 ++ enc1 l
  | .laneStop l => enc1 23 ++ enc1 l
  | .laneFlush l => enc1 24 ++ enc1 l
  | .visitRead n => enc1 25 ++ enc2 n
  | .visitRelease n b => enc1 26 ++ enc2 n ++ enc1 (b.getD 0)
  | .visitReject n => enc1 27 ++ enc2 n
  | .sendUrgent p k m v b r =>
    enc1 28 ++ enc1 p ++ enc1 k ++ enc1 m ++ enc2 (v.getD 0) ++ enc1 (b.getD 0) ++ enc1 (r.getD 0)
  | .barrierClear l => enc1 29 ++ enc1 l
  | .noticeAck c => enc1 30 ++ enc2 c
  | .alertRead l => enc1 31 ++ enc1 l
  | .countersRead x => enc1 32 ++ encFlag x
  | .reportHold => enc1 33
  | .reportResume => enc1 34
  | .warmReset => enc1 35
  | .identify => enc1 36

/-- A number fits 1 byte. -/
def fits1 (n : Nat) : Bool := decide (n ≤ 255)

/-- A number fits 2 bytes. -/
def fits2 (n : Nat) : Bool := decide (n ≤ 65535)

/-- A number fits 4 bytes. -/
def fits4 (n : Nat) : Bool := decide (n ≤ max32)

/-- An optional number whose range leaves 0 out is absent, or fits and is not 0. -/
def fitsOptional (top : Nat) (n : Option Nat) : Bool :=
  match n with
  | none => true
  | some n => decide (1 ≤ n) && decide (n ≤ top)

/-- A raw text has its length byte and eleven places. -/
def RawText.fits (r : RawText) : Bool := fits1 r.length && decide (r.places.length = 11)

/-- Every parameter field fits its bytes. -/
def BlockParams.fits (p : BlockParams) : Bool :=
  fits2 p.pdr && fits2 p.mdr && fits2 p.idr && fits2 p.ais && fits1 p.df && fits1 p.mrl && fits1 p.burst
    && fits2 p.idleReset

/-- Every field of a line fits its bytes. -/
def RawLine.fits (l : RawLine) : Bool :=
  fits1 l.direction && l.container.fits && fits1 l.sizeClass && fits1 l.load && fits1 l.sealCount
    && decide (l.seals.length = 2) && l.seals.all RawText.fits && fits1 l.primary && fits1 l.alternate

/-- Every field of a request fits the bytes its encoding gives it. -/
def MgmtRequest.fits : MgmtRequest → Bool
  | .stationWrite e _ n p r => fits1 e && fits1 n && fits1 p && fits1 r
  | .stationRead e => fits1 e
  | .codeWrite e c m _ => fits1 e && fits1 c && fits1 m
  | .codeRead e => fits1 e
  | .watchWrite e _ w =>
    fits1 e && fits1 w.kind && w.text.fits && fits4 w.reference && fits1 w.compareLength && fits1 w.maskWidth
      && fits1 w.action && fits1 w.timing && fits1 w.predecessor
  | .watchRead e => fits1 e
  | .windowWrite p st len cap al e l =>
    fits4 p && fits4 st && fits2 len && fits2 cap && fits2 al && fits1 e && fits1 l
  | .windowDelete p => fits4 p
  | .windowRead i => fits1 i
  | .blockWrite b p => fits1 b && p.fits
  | .blockTune b p => fits1 b && p.fits
  | .blockDisable b => fits1 b
  | .blockRead b => fits1 b
  | .bookingWrite b =>
    fits2 b.index && fits4 b.tag && fits4 b.period && b.plate.fits && fits1 b.lineCount && b.line1.fits && b.line2.fits
  | .bookingCancel i g => fits2 i && fitsOptional max32 g
  | .bookingDelete i g => fits2 i && fitsOptional max32 g
  | .bookingRead i g => fits2 i && fitsOptional max32 g
  | .paramWrite n v => fits1 n && fits2 v
  | .paramRead n v => fits1 n && fits2 v
  | .setPartition g => fits1 g
  | .timeSet v => fits4 v
  | .laneOpen l => fits1 l
  | .laneStop l => fits1 l
  | .laneFlush l => fits1 l
  | .visitRead n => fits2 n
  | .visitRelease n b => fits2 n && fitsOptional 255 b
  | .visitReject n => fits2 n
  | .sendUrgent p k m v b r =>
    fits1 p && fits1 k && fits1 m && fitsOptional 65535 v && fitsOptional 255 b && fitsOptional 255 r
  | .barrierClear l => fits1 l
  | .noticeAck c => fits2 c
  | .alertRead l => fits1 l
  | .countersRead _ => true
  | .reportHold => true
  | .reportResume => true
  | .warmReset => true
  | .identify => true

end Sys2Proof.Machine
end

