-- ==== Sys2Proof/Machine/PartRequests.lean ====
section
/-! DEFINITION. The management unit's own requests (R167–R178): parameters, the gate clock, notices, counters, the
report queue, warm reset and identity. -/

namespace Sys2Proof.Machine

open Sys2Proof

/-! ### Parameters (TABLE 10-2) -/

/-- The range of a parameter, the notice mask any subset of the nine classes, the mirror by its enumeration code. -/
def paramRange (n v : Nat) : Bool :=
  match n with
  | 0 => decide (5 ≤ v) && decide (v ≤ 600)
  | 1 => decide (v ≤ 100)
  | 2 => decide (1 ≤ v) && decide (v ≤ 15)
  | 3 => decide (v ≤ 7)
  | 4 => decide (10 ≤ v) && decide (v ≤ 600)
  | 5 => decide (60 ≤ v) && decide (v ≤ 7200)
  | 6 => decide (1 ≤ v) && decide (v ≤ 24)
  | 7 => decide (v ≤ 32)
  | 8 => decide (v ≤ 15)
  | 9 => decide (v ≤ 15)
  | 10 => decide (v ≤ 15)
  | 11 => decide (v ≤ 15)
  | 12 => decide (v ≤ 15)
  | 13 => decide (v ≤ 15)
  | 14 => decide (v ≤ 630)
  | 15 => decide (v ≤ 630)
  | 16 => decide (1 ≤ v) && decide (v ≤ 7)
  | 17 => decide (v < 512)
  | 18 => decide (1 ≤ v) && decide (v ≤ 2)
  | _ => false

/-- The value of a parameter, as PARAM_READ carries it. -/
def State.paramValue (n : Nat) (s : State) : Nat :=
  let p := s.mgmt.params
  match n with
  | 0 => p.idleLimit
  | 1 => p.confidenceFloor
  | 2 => p.resendInterval
  | 3 => p.resendLimit
  | 4 => p.barrierLimit
  | 5 => p.stagingLimit
  | 6 => p.stagingRows
  | 7 => p.walkInBlock
  | 8 => p.weights.front
  | 9 => p.weights.rear
  | 10 => p.weights.left
  | 11 => p.weights.right
  | 12 => p.weights.roof
  | 13 => p.weights.doors
  | 14 => p.noteThreshold
  | 15 => p.surveyThreshold
  | 16 => p.stopSeverity
  | 17 => s.mgmt.mask.toBits
  | _ => if p.mirror then 1 else 2

/-- The parameter set with one parameter set; the notice mask stands apart. -/
def Params.put (p : Params) (n v : Nat) : Params :=
  match n with
  | 0 => { p with idleLimit := v }
  | 1 => { p with confidenceFloor := v }
  | 2 => { p with resendInterval := v }
  | 3 => { p with resendLimit := v }
  | 4 => { p with barrierLimit := v }
  | 5 => { p with stagingLimit := v }
  | 6 => { p with stagingRows := v }
  | 7 => { p with walkInBlock := v }
  | 8 => { p with weights := p.weights.put v .front }
  | 9 => { p with weights := p.weights.put v .rear }
  | 10 => { p with weights := p.weights.put v .left }
  | 11 => { p with weights := p.weights.put v .right }
  | 12 => { p with weights := p.weights.put v .roof }
  | 13 => { p with weights := p.weights.put v .doors }
  | 14 => { p with noteThreshold := v }
  | 15 => { p with surveyThreshold := v }
  | 16 => { p with stopSeverity := v }
  | 17 => p
  | 18 => { p with mirror := v == 1 }
  | _ => p

/-- The number of staging rows reserved or occupied (R143). -/
def State.rowsHeld (s : State) : Nat := (List.finRange 24).countP (fun r => s.rowState r != .free)

/-- The notice mask set: a class enabled whose flag is set and that was not enabled before starts a NOTICE (R171). -/
def State.setMask (m : NoticeSet) (s : State) : State :=
  let t : State := { s with mgmt := { s.mgmt with mask := m } }
  if s.mgmt.flags.meets (m.without s.mgmt.mask) then t.startNotice else t

/-- A parameter set with its further effects (R167): the mask's under R171, a raised staging-rows value's under
R142. -/
def State.setParam (n v : Nat) (s : State) : State :=
  let t : State := { s with mgmt := { s.mgmt with params := s.mgmt.params.put n v } }
  if n = 17 then s.setMask (.ofBits v)
  else if n = 6 ∧ s.mgmt.params.stagingRows < v then t.promoteAll
  else t

/-- PARAM_WRITE (R167). -/
def State.paramWrite (n v : Nat) (s : State) : Answer :=
  if 18 < n then refuse .badIndex s
  else if !paramRange n v then refuse .badRecord s
  else if n = 6 ∧ v < s.rowsHeld then refuse .inUse s
  else granted (s.setParam n v) (.param v)

/-- PARAM_WRITE. -/
def execParamWrite (s : State) : Host.Outcome State Fault Refusal :=
  match s.nextRequest? with
  | some (tag, .paramWrite n v, t) => done (answer tag 18 (t.paramWrite n v))
  | _ => .next s

/-- PARAM_READ (R167). The value that its request carries (R188) has no effect: R167 reads by the number alone and tests
nothing else (DEDUCED, log entry 25). -/
def State.paramRead (n : Nat) (s : State) : Answer :=
  if 18 < n then refuse .badIndex s else granted s (.param (s.paramValue n))

/-- PARAM_READ. -/
def execParamRead (s : State) : Host.Outcome State Fault Refusal :=
  match s.nextRequest? with
  | some (tag, .paramRead n _, t) => done (answer tag 19 (t.paramRead n))
  | _ => .next s

/-! ### The gate clock (R169) -/

/-- TIME_SET (R169, R70). -/
def State.timeSet (v : Nat) (s : State) : Answer :=
  granted { s with mgmt := { s.mgmt with clock := v }, ring := s.ring.rederive v } (.times s.mgmt.clock v)

/-- TIME_SET. -/
def execTimeSet (s : State) : Host.Outcome State Fault Refusal :=
  match s.nextRequest? with
  | some (tag, .timeSet v, t) => done (answer tag 21 (t.timeSet v))
  | _ => .next s

/-! ### Notices and counters (R172, R173) -/

/-- NOTICE_ACK (R172): the flags that stand after it are returned. -/
def State.noticeAck (classes : Nat) (s : State) : Answer :=
  let t := s.acknowledge (.ofBits classes)
  granted t (.notices t.mgmt.flags)

/-- NOTICE_ACK. -/
def execNoticeAck (s : State) : Host.Outcome State Fault Refusal :=
  match s.nextRequest? with
  | some (tag, .noticeAck c, t) => done (answer tag 30 (t.noticeAck c))
  | _ => .next s

/-- COUNTERS_READ (R173). -/
def State.countersRead (clear : Bool) (s : State) : Answer :=
  granted (if clear then s.clearCounters else s)
    (.counters s.mgmt.laneCounters s.mgmt.partCounters s.mgmt.clock)

/-- COUNTERS_READ. -/
def execCountersRead (s : State) : Host.Outcome State Fault Refusal :=
  match s.nextRequest? with
  | some (tag, .countersRead c, t) => done (answer tag 32 (t.countersRead c))
  | _ => .next s

/-! ### The report queue (R176) -/

/-- The report hold set. -/
def State.setHold (x : Bool) (s : State) : State := { s with mgmt := { s.mgmt with hold := x } }

/-- The numbers that both report requests return (R176). -/
def State.reportNumbers (s : State) : Results := .reports s.mgmt.reportQueue.length s.mgmt.reportWait.length

/-- REPORT_HOLD (R176). -/
def State.reportHold (s : State) : Answer :=
  if s.mgmt.hold then refuse .wrongState s else granted (s.setHold true) s.reportNumbers

/-- REPORT_HOLD. -/
def execReportHold (s : State) : Host.Outcome State Fault Refusal :=
  match s.nextRequest? with
  | some (tag, .reportHold, t) => done (answer tag 33 t.reportHold)
  | _ => .next s

/-- REPORT_RESUME (R176). -/
def State.reportResume (s : State) : Answer :=
  if s.mgmt.hold then granted (s.setHold false) s.reportNumbers else refuse .wrongState s

/-- REPORT_RESUME. -/
def execReportResume (s : State) : Host.Outcome State Fault Refusal :=
  match s.nextRequest? with
  | some (tag, .reportResume, t) => done (answer tag 34 t.reportResume)
  | _ => .next s

/-! ### Warm reset and identity (R177, R178) -/

/-- The access that holds the store at a warm reset: a check-unit access completes whole and reaches no check (R60). -/
def StoreAccess.abandon : StoreAccess → StoreAccess
  | .check a _ => .check a true
  | .mgmt a => .mgmt a

/-- A report at the port that a warm reset takes out of the queue (R176). -/
def HandedReport.cutOff (h : HandedReport) : HandedReport := { h with ofQueue := false }

/-- The frame in transmission at a warm reset: it is sent (R187). -/
def UplinkFrame.cutOff : UplinkFrame → UplinkFrame
  | .report h => .report h.cutOff
  | f => f

/-- A warm reset: every block at its warm values (R178; TABLES 1-4, 2-10, 3-7, 4-3, 5-7, 6-12, 7-8, 8-4, 9-7, 10-6;
R187). -/
def State.warm (s : State) : State :=
  { s with
    ports := { s.ports with
      reportPlace := s.ports.reportPlace.map HandedReport.cutOff
      uplinkSending := s.ports.uplinkSending.map UplinkFrame.cutOff }
    intake := { s.intake with queue := [], latches := Vector.replicate 12 none, overrun := false }
    asm := Assembler.cleared s.asm.nextNumber
    check := { queue := [], context := none }
    store := { s.store with
      granted := s.store.granted.map StoreAccess.abandon
      checkWaiting := none
      mgmtWaiting := none }
    pacer :=
      { blocks := Vector.ofFn (fun i => s.pacer.blocks[i].rewarmed)
        staged := []
        rows := Vector.replicate 24 .free
        laneWait := [] }
    engine :=
      { points := Vector.ofFn (fun i => { sequence := s.engine.points[i].sequence })
        barriers := Vector.replicate 12 { }
        departures := Vector.replicate 12 []
        pendings := [] }
    mgmt := { s.mgmt with
      flags := { }
      noticeWaiting := false
      laneCounters := Vector.replicate 12 { }
      partCounters := { }
      reportQueue := []
      reportWait := []
      hold := false } }

/-- WARM_RESET (R178). -/
def execWarmReset (s : State) : Host.Outcome State Fault Refusal :=
  match s.nextRequest? with
  | some (tag, .warmReset, t) => done (answer tag 35 (granted t.warm))
  | _ => .next s

/-- What IDENTIFY returns (R177). -/
def State.identity (s : State) : Results :=
  .identity s.mgmt.unitAddr s.mgmt.typeHigh s.store.partition (bookingCapacity s.store.partition) s.mgmt.clock
    s.mgmt.reportNumber

/-- IDENTIFY (R177). -/
def execIdentify (s : State) : Host.Outcome State Fault Refusal :=
  match s.nextRequest? with
  | some (tag, .identify, t) => done (answer tag 36 (granted t t.identity))
  | _ => .next s

end Sys2Proof.Machine
end

