-- ==== Sys2Proof/Machine/Reception.lean ====
section
/-! DEFINITION. The commands of a frame's arrival at a port (R180–R183). Each carries the frame; the port sorts it by
the rules of chapter 11, so that a frame is treated by what it is, under whichever of these commands it comes. -/

namespace Sys2Proof.Machine

open Sys2Proof

/-- A MGMT_REQUEST delivered to the management unit (R165). -/
def State.deliverRequest (q : Request) (s : State) : State :=
  if s.mgmt.queue.length < 8 then { s with mgmt := { s.mgmt with queue := s.mgmt.queue ++ [q] } }
  else s.count .mgmtDrops

/-- A well-formed message of the selected type at the LANE port (R181). -/
def State.laneMessage (f : Frame) (m : Message) (s : State) : State :=
  match m with
  | .laneReport r => (if s.mgmt.params.mirror then s.bridge .lane f else s).deliverReport r
  | _ => s.count .malformed

/-- A well-formed message of the selected type at the UPLINK port (R182). -/
def State.uplinkMessage (m : Message) (s : State) : State :=
  match m with
  | .yardState station block ci ni er =>
    if station = s.mgmt.unitAddr.toNat then s.takeYardState block ci ni er else s.count .malformed
  | .mgmtRequest station q =>
    if station = s.mgmt.unitAddr.toNat then s.deliverRequest q else s.count .malformed
  | .laneCommand => s.count .laneCommandDrops
  | .laneReport _ => s.count .malformed
  | .other => s.count .malformed

/-- A frame received at a port (R180–R183): discarded by the MAC, bridged, malformed, or handled by its class. -/
def State.receive (p : Port) (f : Frame) (s : State) : State :=
  if !frameAccepted f then s
  else if f.etherType ≠ s.selectedType then s.bridge p f
  else
    match message? f.payload with
    | none => s.count .malformed
    | some m =>
      match p with
      | .lane => s.laneMessage f m
      | .uplink => s.uplinkMessage m

/-- FRAME_DISCARD (R180). -/
def execFrameDiscard (p : Port) (f : Frame) (s : State) : Host.Outcome State Fault Refusal := done (s.receive p f)

/-- MALFORMED_MESSAGE (R180). -/
def execMalformedMessage (p : Port) (f : Frame) (s : State) : Host.Outcome State Fault Refusal := done (s.receive p f)

/-- PASS_THROUGH_FRAME (R183). -/
def execPassThroughFrame (p : Port) (f : Frame) (s : State) : Host.Outcome State Fault Refusal := done (s.receive p f)

/-- LANE_REPORT (R181). -/
def execLaneReport (f : Frame) (s : State) : Host.Outcome State Fault Refusal := done (s.receive .lane f)

/-- UPLINK_LANE_COMMAND (R182). -/
def execUplinkLaneCommand (f : Frame) (s : State) : Host.Outcome State Fault Refusal := done (s.receive .uplink f)

/-- YARD_STATE (R116). -/
def execYardState (f : Frame) (s : State) : Host.Outcome State Fault Refusal := done (s.receive .uplink f)

/-- MGMT_REQUEST (R165). -/
def execMgmtRequest (f : Frame) (s : State) : Host.Outcome State Fault Refusal := done (s.receive .uplink f)

end Sys2Proof.Machine
end

