-- ==== Sys2Proof/Machine/Reports.lean ====
section
/-! DEFINITION. The lane intake takes a report (R8, R30, R31): one command per kind. Each takes the oldest report of
the intake queue when it is of its kind; the event does not occur otherwise (log entry 3). -/

namespace Sys2Proof.Machine

open Sys2Proof

/-- PLATE_READ (R34). -/
def execPlateRead (s : State) : Host.Outcome State Fault Refusal :=
  match s.intake.queue with
  | ⟨st, .plate t c⟩ :: _ => done (s.dropReport.routeMergeable ⟨st, .plate t c⟩)
  | _ => .next s

/-- CONTAINER_READ (R38). -/
def execContainerRead (s : State) : Host.Outcome State Fault Refusal :=
  match s.intake.queue with
  | ⟨st, .container p n z c⟩ :: _ => done (s.dropReport.routeMergeable ⟨st, .container p n z c⟩)
  | _ => .next s

/-- CREDENTIAL_READ (R35). -/
def execCredentialRead (s : State) : Host.Outcome State Fault Refusal :=
  match s.intake.queue with
  | ⟨st, .credential t⟩ :: _ => done (s.dropReport.routeMergeable ⟨st, .credential t⟩)
  | _ => .next s

/-- BOOKING_ENTRY (R36). -/
def execBookingEntry (s : State) : Host.Outcome State Fault Refusal :=
  match s.intake.queue with
  | ⟨st, .booking ref⟩ :: _ => done (s.dropReport.routeMergeable ⟨st, .booking ref⟩)
  | _ => .next s

/-- SEAL_READ (R39). -/
def execSealRead (s : State) : Host.Outcome State Fault Refusal :=
  match s.intake.queue with
  | ⟨st, .seal p t x c⟩ :: _ => done (s.dropReport.routeMergeable ⟨st, .seal p t x c⟩)
  | _ => .next s

/-- DAMAGE_PANEL (R40). -/
def execDamagePanel (s : State) : Host.Outcome State Fault Refusal :=
  match s.intake.queue with
  | ⟨st, .damage p k v⟩ :: _ => done (s.dropReport.routeMergeable ⟨st, .damage p k v⟩)
  | _ => .next s

/-- SIGNAL (R16). -/
def execSignal (s : State) : Host.Outcome State Fault Refusal :=
  match s.intake.queue with
  | ⟨st, .signal n⟩ :: _ => done (s.dropReport.routeSignal st n)
  | _ => .next s

/-- SHOWN (R152). -/
def execShown (s : State) : Host.Outcome State Fault Refusal :=
  match s.intake.queue with
  | ⟨st, .shown q⟩ :: _ => done (s.dropReport.routeShown st q)
  | _ => .next s

/-- PASSED (R160). -/
def execPassed (s : State) : Host.Outcome State Fault Refusal :=
  match s.intake.queue with
  | ⟨st, .passed⟩ :: _ => done (s.dropReport.routePassed st)
  | _ => .next s

end Sys2Proof.Machine
end

