-- ==== Sys2Proof/Machine/StoreRequests.lean ====
section
/-! DEFINITION. The requests that use the table store (R52–R58) and the completion of the management unit's accesses:
the request is taken and asks for its access; its effect and its response come with the completion (R49, R166). -/

namespace Sys2Proof.Machine

open Sys2Proof

/-- A request taken that waits for its table-store access (R49, R166). -/
def State.askStore (tag kind : Nat) (a : MgmtAccess) (s : State) : State :=
  State.requestMgmt a { s with mgmt := { s.mgmt with unit := .accessing tag kind } }

/-- BOOKING_WRITE (R53): taken, its access asked for. -/
def execBookingWrite (s : State) : Host.Outcome State Fault Refusal :=
  match s.nextRequest? with
  | some (tag, .bookingWrite b, t) => done (t.askStore tag 14 (.bookingWrite b))
  | _ => .next s

/-- BOOKING_CANCEL (R54): taken, its access asked for. -/
def execBookingCancel (s : State) : Host.Outcome State Fault Refusal :=
  match s.nextRequest? with
  | some (tag, .bookingCancel i g, t) => done (t.askStore tag 15 (.bookingCancel i g))
  | _ => .next s

/-- BOOKING_DELETE (R55): taken, its access asked for. -/
def execBookingDelete (s : State) : Host.Outcome State Fault Refusal :=
  match s.nextRequest? with
  | some (tag, .bookingDelete i g, t) => done (t.askStore tag 16 (.bookingDelete i g))
  | _ => .next s

/-- BOOKING_READ (R56): taken, its access asked for. -/
def execBookingRead (s : State) : Host.Outcome State Fault Refusal :=
  match s.nextRequest? with
  | some (tag, .bookingRead i g, t) => done (t.askStore tag 17 (.bookingRead i g))
  | _ => .next s

/-- The request that the management unit is executing answers, when there is one. -/
def State.answerAccess (a : Answer) : State :=
  match a.1.mgmt.unit with
  | .accessing tag kind => answer tag kind a
  | _ => a.1

/-- The store released after an access of the management unit. -/
def Answer.released (a : Answer) : Answer := (a.1.setStore a.1.store.release, a.2)

/-- MANAGEMENT_ACCESS_COMPLETE (R49): a granted access of a booking request completes, and the request answers. -/
def execManagementAccessComplete (s : State) : Host.Outcome State Fault Refusal :=
  match s.store.granted with
  | some (.mgmt (.bookingWrite b)) => done (State.answerAccess (Answer.released (s.bookingWrite b)))
  | some (.mgmt (.bookingCancel i g)) => done (State.answerAccess (Answer.released (s.bookingCancel i g)))
  | some (.mgmt (.bookingDelete i g)) => done (State.answerAccess (Answer.released (s.bookingDelete i g)))
  | some (.mgmt (.bookingRead i g)) => done (State.answerAccess (Answer.released (s.bookingRead i g)))
  | _ => .next s

/-- Whether every lane is CLOSED and every visit record FREE (R57). -/
def State.allClosed (s : State) : Bool :=
  (List.finRange 12).all (fun l => (s.lane l).state == .closed)
    && (List.finRange 48).all (fun r => (s.visit r).state == .free)

/-- SET_PARTITION (R57): refused at once, or accepted and its clear asked for. -/
def execSetPartition (s : State) : Host.Outcome State Fault Refusal :=
  match s.nextRequest? with
  | some (tag, .setPartition g, t) =>
    if 2 < g then done (answer tag 20 (refuse .badRecord t))
    else if !t.allClosed then done (answer tag 20 (refuse .lanesOpen t))
    else done (t.askStore tag 20 (.clear g))
  | _ => .next s

/-- CLEAR_COMPLETE (R58): the clear of SET_PARTITION completes, and the request answers OK. -/
def execClearComplete (s : State) : Host.Outcome State Fault Refusal :=
  match s.store.granted with
  | some (.mgmt (.clear g)) => done (State.answerAccess (Answer.released (granted (s.clearStore g))))
  | _ => .next s

/-- COLD_SWEEP_COMPLETE (R59): the cold sweep's clear completes, and the management unit can take requests. -/
def execColdSweepComplete (s : State) : Host.Outcome State Fault Refusal :=
  match s.store.granted with
  | some (.mgmt .coldSweep) =>
    let t := s.clearStore 1
    done { t with
      store := t.store.release
      mgmt := { t.mgmt with unit := .idle } }
  | _ => .next s

end Sys2Proof.Machine
end

