-- ==== Sys2Proof/Machine/Transmit.lean ====
section
/-! DEFINITION. The commands of a transmitter that finishes a frame (R184–R186). With no frame in transmission the
event does not occur (log entry 3). -/

namespace Sys2Proof.Machine

open Sys2Proof

/-- The UPLINK transmitter free again. -/
def State.freeUplink (s : State) : State := { s with ports := { s.ports with uplinkSending := none } }

/-- UPLINK_TRANSMIT_DONE (R185): the sender is freed; the management unit is IDLE after its response (R166), a report
of the queue leaves it (R175), a bridged frame leaves its queue (R183). -/
def execUplinkTransmitDone (s : State) : Host.Outcome State Fault Refusal :=
  match s.ports.uplinkSending with
  | none => .next s
  | some (.response _) => done { s.freeUplink with mgmt := { s.mgmt with unit := .idle } }
  | some (.notice _ _) => done s.freeUplink
  | some (.report h) => done (if h.ofQueue then s.freeUplink.reportSent else s.freeUplink)
  | some .bridged =>
    done { s.freeUplink with ports := { s.freeUplink.ports with laneToUplink := s.ports.laneToUplink.tail } }

/-- LANE_TRANSMIT_DONE (R186). -/
def execLaneTransmitDone (s : State) : Host.Outcome State Fault Refusal :=
  match s.ports.laneSending with
  | none => .next s
  | some (.command _) => done { s with ports := { s.ports with laneSending := none } }
  | some .bridged =>
    done { s with ports := { s.ports with laneSending := none, uplinkToLane := s.ports.uplinkToLane.tail } }

end Sys2Proof.Machine
end

