-- ==== Sys2Proof/Machine/Dispatch.lean ====
section
/-! DEFINITION. The meaning of every command: one arm per constructor of Instr, each a direct call. -/

namespace Sys2Proof.Machine

open Sys2Proof

def exec (i : Instr) (s : State) : Host.Outcome State Fault Refusal :=
  match i with
  | .coldReset unitAddr typeHigh => Sys2Proof.Machine.execColdReset unitAddr typeHigh s
  | .coldSweepComplete => Sys2Proof.Machine.execColdSweepComplete s
  | .secondEvent => Sys2Proof.Machine.execSecondEvent s
  | .idleCountdownExpiry lane => Sys2Proof.Machine.execIdleCountdownExpiry lane s
  | .resendCountdownExpiry point => Sys2Proof.Machine.execResendCountdownExpiry point s
  | .barrierCountdownExpiry lane => Sys2Proof.Machine.execBarrierCountdownExpiry lane s
  | .blockIdleCountdownExpiry block => Sys2Proof.Machine.execBlockIdleCountdownExpiry block s
  | .stagingLimitTimeout visit => Sys2Proof.Machine.execStagingLimitTimeout visit s
  | .frameDiscard port f => Sys2Proof.Machine.execFrameDiscard port f s
  | .malformedMessage port f => Sys2Proof.Machine.execMalformedMessage port f s
  | .passThroughFrame port f => Sys2Proof.Machine.execPassThroughFrame port f s
  | .laneReport f => Sys2Proof.Machine.execLaneReport f s
  | .uplinkLaneCommand f => Sys2Proof.Machine.execUplinkLaneCommand f s
  | .yardState f => Sys2Proof.Machine.execYardState f s
  | .mgmtRequest f => Sys2Proof.Machine.execMgmtRequest f s
  | .plateRead => Sys2Proof.Machine.execPlateRead s
  | .containerRead => Sys2Proof.Machine.execContainerRead s
  | .credentialRead => Sys2Proof.Machine.execCredentialRead s
  | .bookingEntry => Sys2Proof.Machine.execBookingEntry s
  | .sealRead => Sys2Proof.Machine.execSealRead s
  | .damagePanel => Sys2Proof.Machine.execDamagePanel s
  | .signal => Sys2Proof.Machine.execSignal s
  | .shown => Sys2Proof.Machine.execShown s
  | .passed => Sys2Proof.Machine.execPassed s
  | .checkStart => Sys2Proof.Machine.execCheckStart s
  | .tableStoreGrant => Sys2Proof.Machine.execTableStoreGrant s
  | .bookingLookup => Sys2Proof.Machine.execBookingLookup s
  | .indexLookup => Sys2Proof.Machine.execIndexLookup s
  | .confirm => Sys2Proof.Machine.execConfirm s
  | .uplinkTransmitDone => Sys2Proof.Machine.execUplinkTransmitDone s
  | .laneTransmitDone => Sys2Proof.Machine.execLaneTransmitDone s
  | .badRequest => Sys2Proof.Machine.execBadRequest s
  | .stationWrite => Sys2Proof.Machine.execStationWrite s
  | .stationRead => Sys2Proof.Machine.execStationRead s
  | .codeWrite => Sys2Proof.Machine.execCodeWrite s
  | .codeRead => Sys2Proof.Machine.execCodeRead s
  | .watchWrite => Sys2Proof.Machine.execWatchWrite s
  | .watchRead => Sys2Proof.Machine.execWatchRead s
  | .windowWrite => Sys2Proof.Machine.execWindowWrite s
  | .windowDelete => Sys2Proof.Machine.execWindowDelete s
  | .windowRead => Sys2Proof.Machine.execWindowRead s
  | .blockWrite => Sys2Proof.Machine.execBlockWrite s
  | .blockTune => Sys2Proof.Machine.execBlockTune s
  | .blockDisable => Sys2Proof.Machine.execBlockDisable s
  | .blockRead => Sys2Proof.Machine.execBlockRead s
  | .bookingWrite => Sys2Proof.Machine.execBookingWrite s
  | .bookingCancel => Sys2Proof.Machine.execBookingCancel s
  | .bookingDelete => Sys2Proof.Machine.execBookingDelete s
  | .bookingRead => Sys2Proof.Machine.execBookingRead s
  | .paramWrite => Sys2Proof.Machine.execParamWrite s
  | .paramRead => Sys2Proof.Machine.execParamRead s
  | .setPartition => Sys2Proof.Machine.execSetPartition s
  | .clearComplete => Sys2Proof.Machine.execClearComplete s
  | .timeSet => Sys2Proof.Machine.execTimeSet s
  | .laneOpen => Sys2Proof.Machine.execLaneOpen s
  | .laneStop => Sys2Proof.Machine.execLaneStop s
  | .laneFlush => Sys2Proof.Machine.execLaneFlush s
  | .visitRead => Sys2Proof.Machine.execVisitRead s
  | .visitRelease => Sys2Proof.Machine.execVisitRelease s
  | .visitReject => Sys2Proof.Machine.execVisitReject s
  | .sendUrgent => Sys2Proof.Machine.execSendUrgent s
  | .barrierClear => Sys2Proof.Machine.execBarrierClear s
  | .noticeAck => Sys2Proof.Machine.execNoticeAck s
  | .alertRead => Sys2Proof.Machine.execAlertRead s
  | .countersRead => Sys2Proof.Machine.execCountersRead s
  | .reportHold => Sys2Proof.Machine.execReportHold s
  | .reportResume => Sys2Proof.Machine.execReportResume s
  | .warmReset => Sys2Proof.Machine.execWarmReset s
  | .identify => Sys2Proof.Machine.execIdentify s
  | .managementAccessComplete => Sys2Proof.Machine.execManagementAccessComplete s

end Sys2Proof.Machine
end

