-- ==== Sys2Proof/Safety.lean ====
section
/-! DEFINITION. The terms in which statements about the part are made: what a request command takes and answers, what
two states have in common, and what a safe state is. -/

namespace Sys2Proof.Machine

open Sys2Proof

/-! ### Requests and responses -/

/-- The management unit is IDLE and the oldest request of its queue is `m`, under a tag, before `rest` (R165, R166). -/
def State.takes (s : State) (tag : Nat) (m : MgmtRequest) (rest : List Request) : Prop :=
  s.mgmt.unit = .idle ∧ ∃ body, s.mgmt.queue = ⟨tag, body⟩ :: rest ∧ request? body = some m

/-- The state with the request taken off the queue and its response handed to the UPLINK port (R166). -/
def State.answeredWith (rest : List Request) (r : Response) (s : State) : State :=
  { s with
    mgmt := { s.mgmt with unit := .responding, queue := rest }
    ports := { s.ports with responsePlace := some r } }

/-- A frame that the MACs let through, of the selected type, carries a well-formed message (R180). -/
def State.accepts (s : State) (f : Frame) (m : Message) : Prop :=
  f.fcsGood = true ∧ 64 ≤ f.length ∧ f.length ≤ 1518
    ∧ f.etherType = (if s.mgmt.typeHigh then 0x88B6#16 else 0x88B5#16) ∧ message? f.payload = some m

/-- The bit of a notice class in a set of classes, the place in TABLE 10-3 (TABLE 11-2). -/
def NoticeClass.bit : NoticeClass → Nat
  | .laneAlert => 0
  | .overrun => 1
  | .displayFault => 2
  | .barrierFault => 3
  | .feedbackLost => 4
  | .stagingLong => 5
  | .reportQueueHigh => 6
  | .visitStoreLow => 7
  | .heldVisit => 8

/-- Whether a class is a level class whose condition holds (TABLE 10-3). -/
def State.levelHolds (s : State) : NoticeClass → Bool
  | .reportQueueHigh => decide (12 ≤ s.mgmt.reportQueue.length)
  | .visitStoreLow => decide (s.asm.freeList.length ≤ 4)
  | _ => false

/-- The response of the request in execution stands at the UPLINK port: handed to it, or in transmission. -/
def State.hasResponse (s : State) (r : Response) : Prop :=
  s.ports.responsePlace = some r ∨ s.ports.uplinkSending = some (.response r)

/-- Whether a status refuses its request: every status but OK and INDEX_PARTIAL (TABLE 10-1). -/
def Status.refuses : Status → Bool
  | .ok => false
  | .indexPartial => false
  | _ => true

/-! ### Lane reports -/

/-- The command that takes a report of a kind. -/
def ReportBody.command : ReportBody → Instr
  | .plate _ _ => .plateRead
  | .container _ _ _ _ => .containerRead
  | .credential _ => .credentialRead
  | .booking _ => .bookingEntry
  | .seal _ _ _ _ => .sealRead
  | .damage _ _ _ => .damagePanel
  | .signal _ => .signal
  | .shown _ => .shown
  | .passed => .passed

/-- Whether a report is of one of the six mergeable kinds (R9). -/
def ReportBody.mergeable : ReportBody → Bool
  | .signal _ => false
  | .shown _ => false
  | .passed => false
  | _ => true

/-- The oldest report of the intake queue is of a body, from a station whose entry is at a lane's point. -/
def State.reads (s : State) (st : Nat) (b : ReportBody) (q : List LaneReport) (l : Lane) : Prop :=
  s.intake.queue = ⟨st, b⟩ :: q ∧ ∃ e, s.stationOf st = some e ∧ pointLane? e.point = some l

/-- The report is taken for the lane's ASSEMBLING visit in record r, whose fragment count it brings to n. -/
def State.mergesInto (s : State) (l : Lane) (r : RecNo) (n : Nat) : Prop :=
  (s.lane l).state = .opened ∧ (s.lane l).openVisit = some r ∧ n = satInc max16 (s.visit r).fragments

/-- The state after a mergeable report has been taken for the visit r of lane l, which it leaves as v: the report off the
intake queue and counted for the lane, the idle countdown restarted (R8, R9, R14, R15). -/
def State.takenAs (s : State) (q : List LaneReport) (l : Lane) (r : RecNo) (v : Visit) : State :=
  State.countLane l .reportsTaken
    { s with
      intake := { s.intake with queue := q }
      asm := { s.asm with
        visits := s.asm.visits.set r.val v
        lanes := s.asm.lanes.set l.val { s.lane l with idleCountdown := some s.mgmt.params.idleLimit } } }

/-- A record as an opening initialises it (R13): its number, lane and opened-at, ASSEMBLING, every other field absent,
empty or 0. -/
def Visit.FreshlyOpened (v : Visit) (number : Nat) (l : Lane) (clock : Nat) : Prop :=
  (v.number = number ∧ v.state = .assembling ∧ v.lane = l ∧ v.openedAt = clock ∧ v.closedAt = none
      ∧ v.closeReason = none ∧ v.fragments = 0 ∧ v.discarded = 0
      ∧ v.marks = ⟨false, false, false, false, false, false⟩)
    ∧ (v.plate = none ∧ v.credential = none ∧ v.reference = none ∧ v.codes = [] ∧ v.hitSet = [] ∧ v.hitList = []
      ∧ v.strongest = none)
    ∧ (∀ d, d = v.pos1 ∨ d = v.pos2 →
        d.container = none ∧ d.seals = [] ∧ (∀ k, d.panels.get k = none) ∧ d.sealVerdict = none ∧ d.damageScore = none
          ∧ d.damageVerdict = none)
    ∧ (v.verdict = none ∧ v.bookingIndex = none ∧ v.outcome = none ∧ v.dispatch = none ∧ v.alternate = none
      ∧ v.disposition = none ∧ v.row = none ∧ v.finalDisposition = none)

/-! ### Points: completion and sending -/

/-- The head of a point's queue has left it, and the oldest pending direction for the point has taken the room (R150). -/
def HeadLeft (s w : State) (p : Point) : Prop :=
  ∀ h more, (s.point p).queue = h :: more →
    ((6 ≤ more.length ∨ ∀ y ∈ s.engine.pendings, y.point ≠ p) →
      w = { s with engine := { s.engine with
              points := s.engine.points.set p.val { s.point p with queue := more } } })
    ∧ (∀ a y b, more.length < 6 → s.engine.pendings = a ++ y :: b → y.point = p → (∀ z ∈ a, z.point ≠ p) →
      w = { s with engine := { s.engine with
              points := s.engine.points.set p.val { s.point p with queue := more ++ [⟨y.direction, false⟩] }
              pendings := a ++ b } })

/-- A queue direction that completed at a point, its descriptor gone in w, is handed on in h (R154): at a lane point the
visit's latest direction there sets its done flag and the barrier is tested, and an earlier one has no effect; at point
13 or 14 a RELEASING visit is finished, its staged entry removed and its row freed (R163, R141, R142). -/
def HandedOn (w h : State) (p : Point) (d : Direction) : Prop :=
  ((∀ v, d.visit = some v → w.findVisit v = none) → h = w)
    ∧ ∀ v r, d.visit = some v → w.findVisit v = some r →
      (∀ l, pointLane? p = some l →
        (((∃ y ∈ (w.point p).queue, y.direction.visit = some v) ∨ ∃ y ∈ w.engine.pendings, y.point = p ∧ y.visit = v) →
          h = w)
        ∧ ((∀ y ∈ (w.point p).queue, y.direction.visit ≠ some v) → (∀ y ∈ w.engine.pendings, y.point = p → y.visit ≠ v) →
          h = State.barrierTest l
            { w with engine := { w.engine with
                departures := w.engine.departures.set l.val
                  ((w.departures l).map (fun y => if y.visit = r then ⟨y.visit, true⟩ else y)) } }))
      ∧ (pointLane? p = none →
        ((w.visit r).state ≠ .releasing → h = w)
        ∧ ((w.visit r).state = .releasing → ∀ x,
            x = { w with asm := { w.asm with visits := w.asm.visits.set r.val { w.visit r with state := .reporting } } } →
            ((∀ y ∈ w.pacer.staged, y.visit ≠ v) → h = State.enterReporting r x)
            ∧ (∀ a y b q, w.pacer.staged = a ++ y :: b → y.visit = v → (∀ z ∈ a, z.visit ≠ v) →
                q = (a ++ y :: b).filter (fun z => z.visit ≠ v) →
                (y.location = .bay → h = State.enterReporting r { x with pacer := { w.pacer with staged := q } })
                ∧ (∀ k, y.location = .row k → h = State.enterReporting r (State.promoteAll
                    { x with pacer := { w.pacer with staged := q, rows := w.pacer.rows.set k.val .free } })))))

/-- What the test of R151 at a point makes of a state: nothing with a message in display or nothing to send; the READY
urgent, else the head, sent under the next sequence number; without a display station each message retired in turn. -/
inductive PointServed (p : Point) : State → State → Prop
  | displays (s : State) : (s.point p).displayed? ≠ none → PointServed p s s
  | rests (s : State) : (s.point p).urgent = .empty → (s.point p).queue = [] → PointServed p s s
  | sendsUrgent (s : State) (d : Direction) (st : Nat) :
      (s.point p).displayed? = none → (s.point p).urgent = .ready d → s.displayStation p = some st →
      PointServed p s (State.placeLane ⟨true, .direction st p d (s.point p).sequence⟩
        { s with engine := { s.engine with points := s.engine.points.set p.val { s.point p with
            urgent := .inDisplay d, sequence := ((s.point p).sequence + 1) % 256
            displaySequence := some (s.point p).sequence, resendCount := 0
            resendCountdown := some s.mgmt.params.resendInterval } } })
  | sendsHead (s : State) (h : Descriptor) (more : List Descriptor) (st : Nat) :
      (s.point p).displayed? = none → (s.point p).urgent = .empty → (s.point p).queue = h :: more →
      s.displayStation p = some st →
      PointServed p s (State.placeLane ⟨false, .direction st p h.direction (s.point p).sequence⟩
        { s with engine := { s.engine with points := s.engine.points.set p.val { s.point p with
            queue := ⟨h.direction, true⟩ :: more, sequence := ((s.point p).sequence + 1) % 256
            displaySequence := some (s.point p).sequence, resendCount := 0
            resendCountdown := some s.mgmt.params.resendInterval } } })
  | retiresUrgent (s t : State) (d : Direction) :
      (s.point p).displayed? = none → (s.point p).urgent = .ready d → s.displayStation p = none →
      PointServed p (State.unconfirmed d
        { s with engine := { s.engine with points := s.engine.points.set p.val { s.point p with
            urgent := (match (s.point p).follow with
              | some f => .ready f
              | none => .empty)
            follow := none } } }) t → PointServed p s t
  | retiresHead (s w x t : State) (h : Descriptor) (more : List Descriptor) :
      (s.point p).displayed? = none → (s.point p).urgent = .empty → (s.point p).queue = h :: more →
      s.displayStation p = none → HeadLeft s w p → HandedOn (State.unconfirmed h.direction w) x p h.direction →
      PointServed p x t → PointServed p s t

/-- The departure queues once a direction is issued for a visit at a point: at a lane point the visit's
lane-direction-done flag is cleared (R149, R158). -/
def flagCleared (s : State) (v : Nat) (p : Point) : Vector (List Departure) 12 :=
  match pointLane? p, s.findVisit v with
  | some l, some r =>
    s.engine.departures.set l.val ((s.departures l).map (fun y => if y.visit = r then ⟨y.visit, false⟩ else y))
  | _, _ => s.engine.departures

/-- The pending directions without those of a visit for a point (R149, step 1). -/
def pendingsWithout (s : State) (v : Nat) (p : Point) : List PendingDirection :=
  s.engine.pendings.filter (fun y => ¬ (y.visit = v ∧ y.point = p))

/-- Steps 1 and 2 of R149 for a direction of a visit at a point: the visit's pending direction for the point is
discarded; its QUEUED direction there is withdrawn and the oldest pending direction for the point takes the room (R150);
the new one joins the tail, or becomes pending behind a queue of 6; at a lane point the done flag is cleared (R158). -/
def DirectionEntered (s u : State) (v : Nat) (p : Point) (d : Direction) : Prop :=
  ∃ (kept queue : List Descriptor) (pendings : List PendingDirection),
    kept = (s.point p).queue.filter (fun y => ¬ (y.direction.visit = some v ∧ y.inDisplay = false))
    ∧ ((kept = (s.point p).queue ∨ 6 ≤ kept.length ∨ ∀ y ∈ pendingsWithout s v p, y.point ≠ p) →
        queue = kept ∧ pendings = pendingsWithout s v p)
    ∧ (∀ a y b, kept ≠ (s.point p).queue → kept.length < 6 → pendingsWithout s v p = a ++ y :: b → y.point = p →
        (∀ z ∈ a, z.point ≠ p) → queue = kept ++ [⟨y.direction, false⟩] ∧ pendings = a ++ b)
    ∧ (queue.length < 6 →
        u = { s with engine := { s.engine with
              points := s.engine.points.set p.val { s.point p with queue := queue ++ [⟨d, false⟩] }
              pendings := pendings, departures := flagCleared s v p } })
    ∧ (6 ≤ queue.length →
        u = { s with engine := { s.engine with
              points := s.engine.points.set p.val { s.point p with queue := queue }
              pendings := pendings.filter (fun y => y.visit ≠ v) ++ [⟨v, p, d⟩], departures := flagCleared s v p } })

/-- The message in display at a point completes, SHOWN or retired UNCONFIRMED (R152, R153): its countdown stops and its
sequence is absent; the urgent's follow takes its place (R156), or the head leaves the queue and is handed on; a
retirement raises DISPLAY_FAULT and marks the visit; then the point tests for its next send (R151). -/
def CompletesAt (s t : State) (p : Point) (retired : Bool) : Prop :=
  (∀ d, (s.point p).displayed? = some (d, true) →
      PointServed p ((if retired then State.unconfirmed d else id)
        { s with engine := { s.engine with points := s.engine.points.set p.val { s.point p with
            displaySequence := none, resendCountdown := none, follow := none
            urgent := (match (s.point p).follow with
              | some f => .ready f
              | none => .empty) } } }) t)
    ∧ (∀ d, (s.point p).displayed? = some (d, false) →
      ∃ w x, HeadLeft { s with engine := { s.engine with points := s.engine.points.set p.val { s.point p with
            displaySequence := none, resendCountdown := none } } } w p
        ∧ HandedOn ((if retired then State.unconfirmed d else id) w) x p d ∧ PointServed p x t)

/-! ### The fields of the messages the part builds (R188, TABLES 11-2 to 11-6) -/

/-- The number of so many bytes at a place of a body, most significant byte first (R188). -/
def numberAt (b : List Byte) (i : Nat) : Nat → Nat
  | 0 => 0
  | w + 1 => numberAt b i w * 256 + byteAt b (i + w)

/-- From a place on, a body is made of numbers of so many bytes each, one after the other, and ends with the last. -/
def MadeOf (b : List Byte) (i : Nat) : List (Nat × Nat) → Prop
  | [] => b.length = i
  | x :: rest => numberAt b i x.1 = x.2 % 256 ^ x.1 ∧ MadeOf b (i + x.1) rest

/-- Bytes that are 0: unused list places, and a record that is absent (TABLE 11-2). -/
def zeros (n : Nat) : List (Nat × Nat) := List.replicate n (1, 0)

/-- The bytes of a text: its length, then 11 places, those unused 0; length 0 when absent (TABLE 11-2). -/
def textField (t : Option Text) : List (Nat × Nat) :=
  (1, (t.getD []).length) :: (List.range 11).map (fun k => (1, ((t.getD []).getD k 0).toNat))

/-- An enumeration: the place in its list of TABLE 11-3, from 1; 0 when absent. -/
def enumField [DecidableEq α] (values : List α) (x : Option α) : Nat × Nat :=
  (1, match x with
    | some x => values.idxOf x + 1
    | none => 0)

/-- An optional thing numbered from 1: 0 when absent. -/
def placeField (i : Option (Fin k)) : Nat × Nat :=
  (1, match i with
    | some i => i.val + 1
    | none => 0)

/-- A flag. -/
def flagField (b : Bool) : Nat × Nat := (1, if b then 1 else 0)

/-- The values of a visit's enumerations in the order of TABLE 11-3. -/
def visitStates : List VisitState :=
  [.free, .assembling, .checking, .directing, .atBarrier, .waitingInLane, .staged, .held, .releasing, .reporting]

/-- Booking verdicts in the order of TABLE 11-3. -/
def bookingVerdicts : List BookingVerdict :=
  [.onTime, .early, .late, .tooEarly, .expired, .notFound, .cancelled, .alreadyUsed, .plateMismatch,
    .containerMismatch, .lineHold, .walkIn, .walkInRefused]

/-- Seal verdicts in the order of TABLE 11-3. -/
def sealVerdicts : List SealVerdict := [.isMatch, .extra, .missing, .mismatch, .tamper, .unchecked]

/-- Damage verdicts in the order of TABLE 11-3. -/
def damageVerdicts : List DamageVerdict := [.clean, .note, .survey, .unscanned]

/-- Watch actions in the order of TABLE 11-3. -/
def watchActions : List WatchAction := [.note, .hold, .stopNow]

/-- Watch timings in the order of TABLE 11-3. -/
def watchTimings : List WatchTiming := [.onArrival, .atClose]

/-- Dispositions in the order of TABLE 11-3. -/
def dispositions : List Disposition := [.dispatched, .staged, .waitingInLane]

/-- Direction kinds in the order of TABLE 11-3. -/
def directionKinds : List DirectionKind :=
  [.proceed, .stage, .wait, .troubleDesk, .inspectionBay, .turnBack, .laneClosed, .stop, .text]

/-- Statuses in the order of TABLE 0-7. -/
def statuses : List Status :=
  [.ok, .badRequest, .badIndex, .badRecord, .inUse, .notFound, .wrongState, .tableFull, .indexPartial, .lanesOpen]

/-- A kept container, 15 bytes. -/
def containerFields (c : Option Container) : List (Nat × Nat) :=
  match c with
  | some c => textField (some c.number) ++ [flagField c.verified, (1, c.sizeClass), (1, c.confidence)]
  | none => zeros 15

/-- A seal list, 40 bytes: its count, then three places of text and tamper. -/
def sealFields (q : List SealEntry) : List (Nat × Nat) :=
  (1, q.length) :: (List.range 3).flatMap (fun k =>
    match q[k]? with
    | some e => textField (some e.text) ++ [flagField e.tamper]
    | none => zeros 13)

/-- The six panel severities in panel order, 0xFF when absent. -/
def panelFields (p : PerPanel (Option Nat)) : List (Nat × Nat) :=
  [Panel.front, .rear, .left, .right, .roof, .doors].map (fun k => (1, (p.get k).getD 255))

/-- One position of a VISIT_REPORT, 65 bytes. -/
def positionFields (d : PosData) : List (Nat × Nat) :=
  containerFields d.container ++ sealFields d.seals ++ panelFields d.panels
    ++ [enumField sealVerdicts d.sealVerdict, enumField damageVerdicts d.damageVerdict, (2, d.damageScore.getD 65535)]

/-- The codes, 5 bytes. -/
def codeFields (q : List Nat) : List (Nat × Nat) := (1, q.length) :: (List.range 4).map (fun k => (1, q.getD k 0))

/-- The hit list, 13 bytes: its count, then four places of entry, action and timing. -/
def hitFields (q : List Hit) : List (Nat × Nat) :=
  (1, q.length) :: (List.range 4).flatMap (fun k =>
    match q[k]? with
    | some h => [(1, h.entry), enumField watchActions (some h.action), enumField watchTimings (some h.timing)]
    | none => zeros 3)

/-- The fields from the visit number through the marks, 18 bytes. -/
def headFields (v : Visit) : List (Nat × Nat) :=
  [(2, v.number), enumField visitStates (some v.state), (1, v.lane.val + 1), (4, v.openedAt),
    (4, v.closedAt.getD max32), enumField [CloseReason.code, .idle, .flush, .laneStop] v.closeReason, (2, v.fragments),
    (2, v.discarded), (1, v.marks.toBits)]

/-- Plate, credential and reference, 29 bytes. -/
def identityFields (v : Visit) : List (Nat × Nat) :=
  textField (v.plate.map Plate.text) ++ [(1, (v.plate.map Plate.confidence).getD 0)] ++ textField v.credential
    ++ [(4, v.reference.getD 0)]

/-- The fields from the outcome to the final disposition, 6 bytes. -/
def tailFields (v : Visit) : List (Nat × Nat) :=
  [enumField [VisitOutcome.admitted, .turnedAway, .trouble, .inspection] v.outcome, placeField v.dispatch,
    placeField v.alternate, enumField dispositions v.disposition, placeField v.row,
    enumField [FinalDisposition.dispatched, .turnedAway, .trouble, .inspection] v.finalDisposition]

/-- The fields of a VISIT_REPORT (TABLE 11-6), `hits` the number that its hit set makes. -/
def reportFields (r : VisitReport) (hits : Nat) : List (Nat × Nat) :=
  [(2, r.number), (4, r.clock)] ++ headFields r.visit ++ identityFields r.visit ++ positionFields r.visit.pos1
    ++ positionFields r.visit.pos2 ++ codeFields r.visit.codes ++ hitFields r.visit.hitList
    ++ [(8, hits), enumField watchActions r.visit.strongest, enumField bookingVerdicts r.visit.verdict,
      (2, r.visit.bookingIndex.getD 65535)] ++ tailFields r.visit

/-- The fields of a direction: kind, visit number, block, row, template, 6 bytes; zeros when absent. -/
def directionFields (d : Option Direction) : List (Nat × Nat) :=
  match d with
  | some d =>
    [enumField directionKinds (some d.kind), (2, d.visit.getD 0), placeField d.block, placeField d.row, (1, d.template)]
  | none => zeros 6

/-- A watch entry in the order of TABLE 6-5, 23 bytes, a field that does not apply absent (log entry 9). -/
def watchFields (e : WatchEntry) : List (Nat × Nat) :=
  let kinds : List KeyKind := [.plate, .container, .seal, .driver, .booking]
  (if e.valid then
    [(1, 1), enumField kinds (some e.kind)]
      ++ (match e.key with
        | .text t n => textField (some t) ++ [(4, 0), (1, n), (1, 255)]
        | .reference n m => textField none ++ [(4, n), (1, 0), (1, m)])
      ++ [enumField watchActions (some e.action), enumField watchTimings (some e.timing)]
  else [(1, 0), (1, 0)] ++ textField none ++ [(4, 0), (1, 0), (1, 255), (1, 0), (1, 0)])
    ++ [(1, e.predecessor.getD 255)]

/-- A booking line in the order of TABLE 3-2, 43 bytes. -/
def lineFields (l : BookingLine) : List (Nat × Nat) :=
  [enumField [LineDirection.drop, .pick] (some l.direction)] ++ textField l.container
    ++ [(1, l.sizeClass), enumField [Load.full, .empty] (some l.load), (1, l.seals.length)] ++ textField l.seals[0]?
    ++ textField l.seals[1]? ++ [flagField l.hold, (1, l.primary.val + 1), placeField l.alternate]

/-- The result fields of a response, in the order its owning rule names them (R188, log entry 9), `hits` the number that
a visit's hit set makes. -/
def Results.fields (hits : Nat) : Results → List (Nat × Nat)
  | .none => []
  | .station Option.none => zeros 3
  | .station (some e) =>
    [(1, e.number), (1, e.point.val + 1), enumField [Role.sensor, .display, .barrier] (some e.role)]
  | .code e => [(1, e.code), enumField [CodeMode.close, .alert] (some e.mode), flagField e.endMarker]
  | .watch e => watchFields e
  | .window w d a g t =>
    (match w with
      | some w =>
        [(4, w.period), (4, w.start), (2, w.length), (2, w.capacity), (2, w.booked), (2, w.arrived), (2, w.allowance),
          (2, w.used), (1, w.early), (1, w.late)]
      | Option.none => zeros 22)
      ++ [enumField [WindowState.empty, .future, .current, .past, .closed] (some d), (4, a), flagField g, (4, t)]
  | .block b n m =>
    [flagField b.written, (1, if b.active then 2 else 1), (2, b.params.pdr), (2, b.params.mdr), (2, b.params.idr),
      (2, b.params.ais), (1, b.params.df), (1, b.params.mrl), (1, b.params.burst), (2, b.params.idleReset), (2, b.adr),
      (4, b.credit), (2, b.dsf), (2, b.idleCountdown), flagField b.feedbackLost, (1, n), (1, m)]
  | .bookingIndexed x y => [flagField (x.getD false), flagField (y.getD false)]
  | .booking Option.none _ _ => [(1, 1)]
  | .booking (some b) x y =>
    [(1, match b.state with
        | .opened => 2
        | .arrived => 3
        | .cancelled => 4), (4, b.tag), (4, b.period)] ++ textField b.plate
      ++ [(1, if b.line2.isSome then 2 else 1)] ++ lineFields b.line1
      ++ (match b.line2 with
        | some l => lineFields l
        | Option.none => zeros 43)
      ++ [flagField (x.getD false), flagField (y.getD false)]
  | .param n => [(2, n)]
  | .times a b => [(4, a), (4, b)]
  | .visitNumber n => [(2, n)]
  | .visit v p =>
    headFields v ++ identityFields v ++ containerFields v.pos1.container ++ containerFields v.pos2.container
      ++ sealFields v.pos1.seals ++ sealFields v.pos2.seals ++ panelFields v.pos1.panels ++ panelFields v.pos2.panels
      ++ codeFields v.codes ++ [(8, hits)] ++ hitFields v.hitList
      ++ [enumField watchActions v.strongest, enumField bookingVerdicts v.verdict, (2, v.bookingIndex.getD 65535),
        enumField sealVerdicts v.pos1.sealVerdict, enumField sealVerdicts v.pos2.sealVerdict,
        (2, v.pos1.damageScore.getD 65535), enumField damageVerdicts v.pos1.damageVerdict,
        (2, v.pos2.damageScore.getD 65535), enumField damageVerdicts v.pos2.damageVerdict]
      ++ tailFields v ++ directionFields p
  | .release (.dispatched b) => [(1, 1), (1, b.val + 1), (1, 0)]
  | .release .staged => [(1, 2), (1, 0), (1, 2)]
  | .release .waitingInLane => [(1, 3), (1, 0), (1, 1)]
  | .urgent p => [enumField [UrgentPlacement.becameReady, .replaced, .toFollow] (some p)]
  | .notices n => [(2, n.toBits)]
  | .alert (some a) => [(1, a.code), (4, a.latchedAt)]
  | .alert Option.none => zeros 5
  | .counters l p t =>
    [LaneCounter.reportsTaken, .visitsOpened, .busyDiscards, .closedDiscards, .admitted, .turnedAway, .trouble,
        .inspection].flatMap (fun k => (List.finRange 12).map (fun i => (4, (l[i]).get k)))
      ++ [PartCounter.overrunDrops, .orphanCloses, .unkeptCodes, .alertOverwrites, .unknownStations, .misrouted,
        .lowConfidence, .badPosition, .zeroTags, .excessSeals, .insertFailures, .redecisions, .unknownFeedback,
        .staleShown, .urgentReplacements, .passedWhileDown, .mgmtDrops, .laneToUplinkDrops, .uplinkToLaneDrops,
        .laneCommandDrops, .malformed].map (fun k => (4, p.get k))
      ++ [(4, t)]
  | .reports n m => [(1, n), (1, m)]
  | .identity u h g c t n =>
    textField (some [71, 76, 80, 49, 50]) ++ [(1, 1), (1, u.toNat), (2, if h then 0x88B6 else 0x88B5), (1, g), (2, c),
      (4, t), (2, n)]

/-- What a position keeps fits its places: texts of at most 11 characters, at most three seals (TABLE 1-1). -/
def PosData.Fits (d : PosData) : Prop :=
  (∀ c, d.container = some c → c.number.length ≤ 11) ∧ d.seals.length ≤ 3 ∧ ∀ e ∈ d.seals, e.text.length ≤ 11

/-- What a visit record keeps fits its places; its hit set holds entries 0–63, each once (TABLE 1-1, R100). -/
def Visit.Fits (v : Visit) : Prop :=
  (∀ p, v.plate = some p → p.text.length ≤ 11) ∧ (∀ t, v.credential = some t → t.length ≤ 11) ∧ v.pos1.Fits ∧ v.pos2.Fits
    ∧ v.codes.length ≤ 4 ∧ v.hitList.length ≤ 4 ∧ v.hitSet.Nodup ∧ ∀ i ∈ v.hitSet, i < 64

/-- A booking line fits its places (TABLE 3-2). -/
def BookingLine.Fits (l : BookingLine) : Prop :=
  (∀ t, l.container = some t → t.length ≤ 11) ∧ l.seals.length ≤ 2 ∧ ∀ t ∈ l.seals, t.length ≤ 11

/-- A booking fits its places (TABLE 3-1). -/
def Booking.Fits (b : Booking) : Prop := (∀ t, b.plate = some t → t.length ≤ 11) ∧ ∀ l ∈ b.lines, l.Fits

/-- The key of a watch entry fits its places (TABLE 6-5). -/
def WatchEntry.Fits (e : WatchEntry) : Prop := ∀ t n, e.key = .text t n → t.length ≤ 11

/-- The results of a response fit their places. -/
def Results.Fits (r : Results) : Prop :=
  (∀ e, r = .watch e → e.Fits) ∧ (∀ b x y, r = .booking (some b) x y → b.Fits) ∧ ∀ v p, r = .visit v p → v.Fits

/-- Everything the part holds of texts and lists fits its places: reports in the intake queue, visit records, watch
entries, bookings, visit reports, and the response at the UPLINK port. -/
def State.StoredFits (s : State) : Prop :=
  (∀ x ∈ s.intake.queue, x.body.legal = true) ∧ (∀ r : RecNo, (s.visit r).Fits) ∧ (∀ i : Fin 64, (s.watch[i]).Fits)
    ∧ (∀ x ∈ s.store.bookings, x.2.Fits) ∧ (∀ y ∈ s.mgmt.reportQueue, y.visit.Fits)
    ∧ (∀ h, s.ports.reportPlace = some h ∨ s.ports.uplinkSending = some (.report h) → h.report.visit.Fits)
    ∧ (∀ r, s.hasResponse r → r.results.Fits)

/-- A frame the part builds (R184, TABLE 11-4): from its own address to the broadcast address, of the selected type, the
8-byte header, then the body, then padding up to the shortest payload. -/
def State.Built (s : State) (f : Frame) (cls station lanePoint tag : Nat) (body : List Byte) : Prop :=
  f.dst = 0xFFFFFFFFFFFF#48 ∧ f.src.toNat = 0x020000000000 + s.mgmt.unitAddr.toNat
    ∧ f.etherType = (if s.mgmt.typeHigh then 0x88B6#16 else 0x88B5#16) ∧ f.fcsGood = true
    ∧ MadeOf (f.payload.take 8) 0 [(1, 1), (1, cls), (1, station), (1, lanePoint), (2, tag), (2, body.length)]
    ∧ (f.payload.drop 8).take body.length = body ∧ f.payload.length = max 46 (8 + body.length)

/-! ### Watch matching -/

/-- The entries that hit a visit in passes over the table in ascending number (R101, R103), in the order of their hits
`q`: each is eligible, not hit before, its predecessor in the hit set then (R99); after each hit the next is the lowest
entry above it that then hits, else the lowest of all in a new pass; in the end none is left that hits. -/
def HitsInPasses (eligible : Fin 64 → Prop) (predecessor : Fin 64 → Option Nat) (old : List Nat) (q : List (Fin 64)) :
    Prop :=
  let ready : Fin 64 → List (Fin 64) → Prop := fun k a =>
    eligible k ∧ (∀ n, predecessor k = some n → n ∈ old ∨ ∃ i ∈ a, i.val = n) ∧ k.val ∉ old ∧ k ∉ a
  (∀ k, ¬ ready k q)
    ∧ ∀ a j b, q = a ++ j :: b →
      ready j a
      ∧ (a = [] → ∀ k, ready k a → j ≤ k)
      ∧ (∀ i, a.getLast? = some i →
          (i < j → ∀ k, ready k a → i < k → j ≤ k) ∧ (j < i → ∀ k, ready k a → j ≤ k ∧ k < i))

/-- What the hits of entries `q`, in this order, make of a visit's watch results (R100): the hit set takes each, the hit
list holds the first four in order, and the strongest action is the strongest so far. -/
def HitsRecorded (table : Vector WatchEntry 64) (q : List (Fin 64)) (v w : Visit) : Prop :=
  (∀ j, j ∈ w.hitSet ↔ j ∈ v.hitSet ∨ ∃ i ∈ q, i.val = j)
    ∧ (v.hitList.length ≤ 4 →
        w.hitList = (v.hitList ++ q.map (fun i => (⟨i.val, (table[i]).action, (table[i]).timing⟩ : Hit))).take 4)
    ∧ w.strongest = q.foldl (fun x i => match x with
        | none => some (table[i]).action
        | some y => if y.rank < (table[i]).action.rank then some (table[i]).action else some y) v.strongest

/-! ### What two states have in common -/

/-- The tables and the parameters that only requests write are the same. -/
def SameTables (s t : State) : Prop :=
  t.intake.stations = s.intake.stations ∧ t.intake.codes = s.intake.codes ∧ t.watch = s.watch
    ∧ t.mgmt.params = s.mgmt.params ∧ t.mgmt.mask = s.mgmt.mask ∧ t.mgmt.unitAddr = s.mgmt.unitAddr
    ∧ t.mgmt.typeHigh = s.mgmt.typeHigh

/-- The check unit, the table store, the window ring, the pacer and the gate clock are the same. -/
def SameJudging (s t : State) : Prop :=
  t.check = s.check ∧ t.store = s.store ∧ t.ring = s.ring ∧ t.pacer = s.pacer ∧ t.mgmt.clock = s.mgmt.clock

/-- The report queue and the request queue with their unit are the same. -/
def SameReporting (s t : State) : Prop :=
  t.mgmt.reportQueue = s.mgmt.reportQueue ∧ t.mgmt.reportWait = s.mgmt.reportWait ∧ t.mgmt.hold = s.mgmt.hold
    ∧ t.mgmt.reportNumber = s.mgmt.reportNumber ∧ t.mgmt.queue = s.mgmt.queue ∧ t.mgmt.unit = s.mgmt.unit

/-- What the lane intake and the merges of a visit have written into it. -/
structure Reads where
  number : Nat
  lane : Lane
  openedAt : Nat
  fragments : Nat
  discarded : Nat
  plate : Option Plate
  credential : Option Text
  reference : Option Nat
  container1 : Option Container
  container2 : Option Container
  seals1 : List SealEntry
  seals2 : List SealEntry
  panels1 : PerPanel (Option Nat)
  panels2 : PerPanel (Option Nat)
  codes : List Nat
  deriving DecidableEq, Repr

/-- The read fields of a visit (TABLE 1-1). -/
def Visit.readFields (v : Visit) : Reads :=
  { number := v.number, lane := v.lane, openedAt := v.openedAt, fragments := v.fragments, discarded := v.discarded,
    plate := v.plate, credential := v.credential, reference := v.reference, container1 := v.pos1.container,
    container2 := v.pos2.container, seals1 := v.pos1.seals, seals2 := v.pos2.seals, panels1 := v.pos1.panels,
    panels2 := v.pos2.panels, codes := v.codes }

/-- What taking a mergeable report for the visit r of lane l leaves: every table, the check unit, the stores, the
pacer, the report and request queues, the free list and the next visit number, every other lane, the latches, and the
read fields of every other visit. -/
def MergeFrame (s t : State) (l : Lane) (r : RecNo) : Prop :=
  SameTables s t ∧ SameJudging s t ∧ SameReporting s t
    ∧ t.asm.freeList = s.asm.freeList ∧ t.asm.nextNumber = s.asm.nextNumber
    ∧ (∀ m : Lane, m ≠ l → t.lane m = s.lane m)
    ∧ t.intake.latches = s.intake.latches ∧ t.intake.overrun = s.intake.overrun
    ∧ (∀ i : RecNo, i ≠ r → (t.visit i).readFields = (s.visit i).readFields)

/-- What taking it does to its lane: the countdown restarts, the pointer stays, the report is counted (R9, R15). -/
def MergeLane (s t : State) (l : Lane) (r : RecNo) : Prop :=
  t.lane l = { s.lane l with openVisit := some r, idleCountdown := some s.mgmt.params.idleLimit }
    ∧ (t.mgmt.laneCounters[l]).reportsTaken = satInc max32 (s.mgmt.laneCounters[l]).reportsTaken

/-- A truck r passes the RAISING barrier of lane l, `rest` its departure queue then: the barrier falls, the head leaves
the queue, and the visit moves on by the first row of TABLE 9-3 that holds (R160). -/
def PassedBy (s : State) (l : Lane) (r : RecNo) (rest : List Departure) (t : State) : Prop :=
  ∃ u : State,
    u = { s with engine := { s.engine with
            barriers := s.engine.barriers.set l.val ⟨false, none⟩, departures := s.engine.departures.set l.val rest } }
      ∧ ((s.visit r).disposition = some .dispatched →
          t = State.enterReporting r { u with asm := { s.asm with
            visits := s.asm.visits.set r.val { s.visit r with finalDisposition := some .dispatched } } })
      ∧ ((s.visit r).disposition ≠ some .dispatched → (s.visit r).outcome = some .trouble →
          t = State.enterReporting r { u with asm := { s.asm with
            visits := s.asm.visits.set r.val { s.visit r with finalDisposition := some .trouble } } })
      ∧ ((s.visit r).disposition ≠ some .dispatched → (s.visit r).outcome = some .turnedAway →
          t = State.enterReporting r { u with asm := { s.asm with
            visits := s.asm.visits.set r.val { s.visit r with finalDisposition := some .turnedAway } } })
      ∧ ((s.visit r).disposition = some .staged → (s.visit r).outcome ≠ some .trouble →
          (s.visit r).outcome ≠ some .turnedAway → ∀ w b, (s.visit r).row = some w →
          s.rowState w = .reserved (s.visit r).number → (s.visit r).dispatch = some b →
          t = { u with
            asm := { s.asm with visits := s.asm.visits.set r.val { s.visit r with state := .staged } }
            pacer := { s.pacer with
              rows := s.pacer.rows.set w.val (.occupied (s.visit r).number)
              staged := s.pacer.staged
                ++ [⟨(s.visit r).number, b, (s.visit r).alternate, .row w, 0, false, false⟩] } })
      ∧ ((s.visit r).disposition ≠ some .dispatched → (s.visit r).disposition ≠ some .staged →
          (s.visit r).outcome = some .inspection →
          t = State.raise .heldVisit { u with asm := { s.asm with
            visits := s.asm.visits.set r.val { s.visit r with
              state := .held, finalDisposition := some .inspection } } })

/-! ### Checks -/

/-- How a visit leaves stage JUDGE: with a confirm access asked for in stage COMMIT, or handed off and its outcome
counted (R85, R90, R108). -/
def LeavesJudge (s t : State) (c : CheckContext) (o : VisitOutcome) (confirm : Option (Nat × Nat)) : Prop :=
  (∀ x, confirm = some x →
      (∃ d, t.check.context = some d ∧ d.visit = c.visit ∧ d.stage = .commit)
        ∧ t.store.checkWaiting = some (.confirm x.1 x.2) ∧ (t.visit c.visit).state = (s.visit c.visit).state)
    ∧ (confirm = none → t.check.context = none
      ∧ (t.mgmt.laneCounters[(s.visit c.visit).lane]).get o.counter
          = satInc max32 ((s.mgmt.laneCounters[(s.visit c.visit).lane]).get o.counter))

/-- The visit of a context is judged with a held booking: the booking index, the verdict, the seal verdicts by the
pairing, the damage verdicts, at-close matching, the outcome, and stage COMMIT entered (R77, R78, R81, R92, R85). -/
def JudgedHolding (s t : State) (c : CheckContext) (h : HeldBooking) : Prop :=
  ∃ (v w : Visit) (p : Option LineNo × Option LineNo) (x : BookingVerdict) (o : VisitOutcome),
    v = { s.visit c.visit with bookingIndex := some h.index }
      ∧ p = pairing h.snapshot v ∧ x = bookingVerdict h.snapshot v (s.ring.reading (some h.snapshot.period)) p
      ∧ w = closePasses s.watch 65 { v with
          verdict := some x
          pos1 := (v.pos1.sealChecked (p.1.bind h.snapshot.line?)).damageChecked s.mgmt.params
          pos2 := (v.pos2.sealChecked (p.2.bind h.snapshot.line?)).damageChecked s.mgmt.params }
      ∧ o = w.decidedOutcome h.snapshot.plate.isSome
      ∧ (t.visit c.visit).bookingIndex = some h.index ∧ (t.visit c.visit).verdict = some x
      ∧ (t.visit c.visit).pos1 = w.pos1 ∧ (t.visit c.visit).pos2 = w.pos2 ∧ (t.visit c.visit).hitSet = w.hitSet
      ∧ (t.visit c.visit).outcome = some o
      ∧ LeavesJudge s t c o
          (if (x = .onTime ∨ x = .early ∨ x = .late ∨ x = .lineHold) ∧ (o = .admitted ∨ o = .inspection) then
            some (h.index, h.tag) else none)

/-- The visit of a context is judged without a booking: walk-in resolution, every position unpaired, at-close matching,
the outcome, the walk-in claim when it is due, and the hand-off (R79, R92, R85, R88). -/
def JudgedWalkIn (s t : State) (c : CheckContext) : Prop :=
  ∃ (v w : Visit) (x : BookingVerdict) (o : VisitOutcome),
    v = s.visit c.visit
      ∧ x = (walkInResolution v s.mgmt.params.walkInBlock (s.ring.reading none)).1
      ∧ w = closePasses s.watch 65 { v with
          verdict := some x
          pos1 := (v.pos1.sealChecked none).damageChecked s.mgmt.params
          pos2 := (v.pos2.sealChecked none).damageChecked s.mgmt.params }
      ∧ o = w.decidedOutcome false
      ∧ (t.visit c.visit).verdict = some x ∧ (t.visit c.visit).pos1 = w.pos1 ∧ (t.visit c.visit).pos2 = w.pos2
      ∧ (t.visit c.visit).hitSet = w.hitSet ∧ (t.visit c.visit).outcome = some o
      ∧ t.ring = (if x = .walkIn ∧ (o = .admitted ∨ o = .inspection) then
            s.ring.modWindow s.ring.arrival (fun y => { y with used := y.used + 1 }) else s.ring)
      ∧ LeavesJudge s t c o none

/-- The index path goes on: the lowest candidate asked for, else position 2 searched after position 1, else walk-in
resolution (R78, steps 2 to 4). -/
def SearchGoesOn (s t : State) (c : CheckContext) : Prop :=
  (∀ i rest, c.candidates = i :: rest →
      t.check.context = some { c with candidates := rest } ∧ t.store.checkWaiting = some (.lookupIndex i))
    ∧ (∀ k, c.candidates = [] → c.searching = some .one → (s.visit c.visit).pos2.container = some k →
      t.check.context = some { c with stage := .lookup, searching := some .two }
        ∧ t.store.checkWaiting = some (.lookupContainer k.number))
    ∧ (c.candidates = [] → c.held = none →
      (c.searching = some .two ∨ c.searching = some .one ∧ (s.visit c.visit).pos2.container = none) →
      JudgedWalkIn s t c)

/-! ### Safe states -/

/-- The window ring is sound (R61, R62, R67, R73): a slot holds only a period of its own, within the 32 bits of a
period; booked stays within capacity and walk-in used within the allowance; with the gap flag clear the slot of the
arrival period holds it. -/
def Ring.Sound (r : Ring) : Prop :=
  r.arrival ≤ max32
    ∧ (∀ (i : Fin 96) (w : Window), r.slots[i] = some w →
        w.period % 96 = i.val ∧ w.period ≤ max32 ∧ w.booked ≤ w.capacity ∧ w.used ≤ w.allowance)
    ∧ (r.gap = false → (r.window? r.arrival).isSome = true)

/-- A yard block is sound (R110, R111): written, its rates stand in order within 0–16,383 and its credit within
burst × 57,600; unwritten, it is DISABLED with every field 0. -/
def YardBlock.Sound (b : YardBlock) : Prop :=
  (b.written = true →
    b.params.mdr ≤ b.adr ∧ b.adr ≤ b.params.pdr ∧ b.params.mdr ≤ b.params.idr ∧ b.params.idr ≤ b.params.pdr
      ∧ b.params.pdr ≤ 16383 ∧ b.credit ≤ b.params.burst * 57600 ∧ b.params.burst ≤ 15)
    ∧ (b.written = false → b = { })

/-- Every yard block is sound. -/
def Pacer.Sound (p : Pacer) : Prop := ∀ b : BlockNo, (p.blocks[b]).Sound

/-- Every bounded collection is within its bound (TABLE 0-8), and no visit has two pending directions (R149). -/
def State.WithinBounds (s : State) : Prop :=
  s.intake.queue.length ≤ 64 ∧ s.mgmt.queue.length ≤ 8 ∧ s.ports.laneToUplink.length ≤ 32
    ∧ s.ports.uplinkToLane.length ≤ 32 ∧ s.mgmt.reportQueue.length ≤ 16
    ∧ (∀ p : Point, (s.point p).queue.length ≤ 6)
    ∧ (∀ r : RecNo, (s.visit r).codes.length ≤ 4 ∧ (s.visit r).hitList.length ≤ 4
        ∧ (s.visit r).pos1.seals.length ≤ 3 ∧ (s.visit r).pos2.seals.length ≤ 3)
    ∧ (s.engine.pendings.map PendingDirection.visit).Nodup

/-- A direction point is sound (R148): only the head of its queue can be IN_DISPLAY, and not beside an urgent
IN_DISPLAY; the in-display sequence and the resend countdown are there exactly while a message is in display; only an
urgent in display has a follow; the sequence counter is one byte. -/
def PointState.Sound (p : PointState) : Prop :=
  (∀ d ∈ p.queue.tail, d.inDisplay = false)
    ∧ (∀ u, p.urgent = .inDisplay u → ∀ d ∈ p.queue, d.inDisplay = false)
    ∧ (p.displaySequence.isSome = p.displayed?.isSome) ∧ (p.resendCountdown.isSome = p.displayed?.isSome)
    ∧ (p.follow.isSome = true → ∃ u, p.urgent = .inDisplay u)
    ∧ p.sequence < 256

/-- The lanes and barriers are sound (R7, R15, R159): a CLOSED lane has no open visit; the idle countdown runs exactly
while the lane has one; a DOWN barrier has no countdown. -/
def State.LanesSound (s : State) : Prop :=
  ∀ l : Lane,
    ((s.lane l).state = .closed → (s.lane l).openVisit = none)
      ∧ ((s.lane l).openVisit.isSome = (s.lane l).idleCountdown.isSome)
      ∧ ((s.barrier l).raising = false → (s.barrier l).countdown = none)

/-- The visit store is sound (R1, R2, R3, R7): a record stands on the free list, once, exactly when it is FREE; every
other record carries a number of 1–65535 that no second one carries; a lane's pointer names exactly its ASSEMBLING
visit. -/
def Assembler.Sound (a : Assembler) : Prop :=
  a.freeList.Nodup ∧ (∀ r : RecNo, r ∈ a.freeList ↔ (a.visits[r]).state = .free)
    ∧ 1 ≤ a.nextNumber ∧ a.nextNumber ≤ 65535
    ∧ (∀ r : RecNo, (a.visits[r]).state ≠ .free → 1 ≤ (a.visits[r]).number ∧ (a.visits[r]).number ≤ 65535)
    ∧ (∀ r i : RecNo, (a.visits[r]).state ≠ .free → (a.visits[i]).state ≠ .free →
        (a.visits[r]).number = (a.visits[i]).number → r = i)
    ∧ (∀ (l : Lane) (r : RecNo),
        (a.lanes[l]).openVisit = some r ↔ (a.visits[r]).state = .assembling ∧ (a.visits[r]).lane = l)

/-- Whether an access of the check unit belongs to a check: a confirm to one that holds a booking and whose visit has an
outcome, a lookup to one that holds none yet (R76, R85). -/
def CheckAccess.belongs (a : CheckAccess) (c : CheckContext) (v : Visit) : Prop :=
  match a with
  | .confirm _ _ => c.held ≠ none ∧ v.outcome ≠ none
  | _ => c.held = none

/-- The check unit is sound (R75, R49): the CHECKING visits are those of the check queue and the one under check, each
once; at most one access of a check that is not abandoned waits or runs, and it belongs to the check. -/
def State.ChecksSound (s : State) : Prop :=
  s.check.queue.Nodup
    ∧ (∀ r : RecNo, (s.visit r).state = .checking ↔
        r ∈ s.check.queue ∨ ∃ c, s.check.context = some c ∧ c.visit = r)
    ∧ (∀ c, s.check.context = some c → c.visit ∉ s.check.queue)
    ∧ (∀ a, (s.store.checkWaiting = some a ∨ s.store.granted = some (.check a false)) →
        ∃ c, s.check.context = some c ∧ a.belongs c (s.visit c.visit))
    ∧ (s.store.checkWaiting = none ∨ ∀ a, s.store.granted ≠ some (.check a false))

/-- Whether a visit in a state stands in its lane's departure queue (R158). -/
def VisitState.inDeparture : VisitState → Bool
  | .checking => true
  | .directing => true
  | .atBarrier => true
  | .waitingInLane => true
  | _ => false

/-- The departure queues and barriers are sound (R158, R159): each queue holds, once, the visits of its lane that closed
and have not passed; an AT_BARRIER visit heads its queue; and the barrier is RAISING exactly when its head is
AT_BARRIER. -/
def State.DeparturesSound (s : State) : Prop :=
  ∀ l : Lane,
    ((s.departures l).map Departure.visit).Nodup
      ∧ (∀ r : RecNo, r ∈ (s.departures l).map Departure.visit ↔
          (s.visit r).lane = l ∧ (s.visit r).state.inDeparture = true)
      ∧ (∀ r : RecNo, (s.visit r).lane = l → (s.visit r).state = .atBarrier →
          (s.departures l).head?.map Departure.visit = some r)
      ∧ ((s.barrier l).raising = true ↔
          ∃ h, (s.departures l).head? = some h ∧ (s.visit h.visit).state = .atBarrier)

/-- The decision a visit carries agrees with its state (R106, R107, R125): none before the hand-off; an admitted one has
its block and DISPATCHED, or STAGED with its row (R128, R142), on the way to the barrier, and WAITING_IN_LANE while it
waits there. -/
def Visit.DecisionSound (v : Visit) : Prop :=
  (v.state = .assembling ∨ v.state = .checking → v.disposition = none)
    ∧ (v.state = .directing ∨ v.state = .atBarrier →
        (v.outcome = some .admitted ∧ v.dispatch ≠ none
            ∧ (v.disposition = some .dispatched ∨ v.disposition = some .staged ∧ v.row ≠ none))
          ∨ ((v.outcome = some .trouble ∨ v.outcome = some .turnedAway ∨ v.outcome = some .inspection)
            ∧ v.disposition = none))
    ∧ (v.state = .waitingInLane →
        v.outcome = some .admitted ∧ v.dispatch ≠ none ∧ v.disposition = some .waitingInLane)

/-- The pacer's collections are sound (R133 to R135): no two entries for one visit; the lane-wait list holds exactly the
WAITING_IN_LANE visits; a staged entry is of a STAGED visit, or once released of a RELEASING one, and every STAGED visit
has one; a row is reserved for exactly the visit on its way to it, and occupied by exactly the visit of its entry. -/
def State.PacingSound (s : State) : Prop :=
  (∀ r : RecNo, (s.visit r).DecisionSound)
    ∧ (s.pacer.laneWait.map LaneWaitEntry.visit).Nodup
    ∧ (∀ n, n ∈ s.pacer.laneWait.map LaneWaitEntry.visit ↔
        ∃ r : RecNo, (s.visit r).number = n ∧ (s.visit r).state = .waitingInLane)
    ∧ (s.pacer.staged.map StagedEntry.visit).Nodup
    ∧ (∀ e ∈ s.pacer.staged, ∃ r : RecNo, (s.visit r).number = e.visit
        ∧ (s.visit r).state = (if e.released then .releasing else .staged))
    ∧ (∀ r : RecNo, (s.visit r).state = .staged → (s.visit r).number ∈ s.pacer.staged.map StagedEntry.visit)
    ∧ (∀ (w : RowNo) (n : Nat), s.rowState w = .reserved n ↔
        ∃ r : RecNo, (s.visit r).number = n ∧ ((s.visit r).state = .directing ∨ (s.visit r).state = .atBarrier)
          ∧ (s.visit r).disposition = some .staged ∧ (s.visit r).row = some w)
    ∧ (∀ (w : RowNo) (n : Nat), s.rowState w = .occupied n ↔
        ∃ e ∈ s.pacer.staged, e.visit = n ∧ e.location = .row w)

/-- The report-wait list is sound (R174): it holds, once, exactly the visits in REPORTING. -/
def State.ReportsSound (s : State) : Prop :=
  s.mgmt.reportWait.Nodup ∧ ∀ r : RecNo, r ∈ s.mgmt.reportWait ↔ (s.visit r).state = .reporting

/-- Every visit stands exactly where its state says: on the free list, at its lane, in the check unit, in its departure
queue, with the pacer, or waiting for room in the report queue. -/
def State.VisitsSound (s : State) : Prop :=
  s.asm.Sound ∧ s.ChecksSound ∧ s.DeparturesSound ∧ s.PacingSound ∧ s.ReportsSound

/-- A booking counts against its window while it is OPEN or ARRIVED (R44). -/
def Booking.counts (p : Nat) (b : Booking) : Bool := b.period == p && b.state != .cancelled

/-- Every slot holds only a period of its own, and the booked count of every period is the number of the bookings that
count against it; a period that is not present has none (R44, R62). -/
def State.BookedCountsRight (s : State) : Prop :=
  cellsWf s.store.bookings = true
    ∧ (∀ (i : Fin 96) (w : Window), s.ring.slots[i] = some w → w.period % 96 = i.val)
    ∧ (∀ p : Nat,
        (s.store.bookings.countP (fun x => x.2.counts p))
          = (match s.ring.window? p with
             | some w => w.booked
             | none => 0))

/-- The table store is in its canonical form, its records below the capacity and its partition one of the three; every
valid index entry stands in the bucket of its key and names a record that is not FREE, one of whose DROP lines has
that key (R46, R47). A clear that waits or runs has a partition of the three too. -/
def TableStore.Sound (t : TableStore) : Prop :=
  cellsWf t.bookings = true ∧ cellsWf t.index = true ∧ t.partition ≤ 2
    ∧ (∀ i b, readCell i t.bookings = some b → i < bookingCapacity t.partition)
    ∧ (∀ e x, readCell e t.index = some x →
        e / 4 = x.key % bucketCount t.partition
          ∧ ∃ b, readCell x.booking t.bookings = some b ∧ ∃ l ∈ b.lines, l.dropKey = some x.key)
    ∧ (∀ g, t.granted = some (.mgmt (.clear g)) → g ≤ 2) ∧ (∀ g, t.mgmtWaiting = some (.clear g) → g ≤ 2)

end Sys2Proof.Machine
end

