-- ==== Sys2Proof/Certificates/Slice0/Obligations.lean ====
section
/-! DEFINITION. Statements for the provers: one definition per obligation, in the order of OBLIGATIONS.json. -/

open Sys2Proof Sys2Proof.Machine

/-! ### The machine, the ports, the notices -/

/-- The command at the front of the queue is what a step carries out, on the state with the queue's rest. That a step
on an empty queue changes nothing is the model's choice (log entry 1). -/
def Obligations.StepRunsTheFrontCommand : Prop :=
  (∀ (c : Instr) (rest : List Instr) (s : State), s.pending = c :: rest →
      step s = exec c { s with pending := rest })
    ∧ ∀ s : State, s.pending = [] → step s = .next s

/-- No command of the 70 faults or is refused, and none touches the queue of waiting commands. That a command whose event
cannot occur then still answers next is the model's choice (log entry 3), and so is the queue itself, which stands for
the world outside and which no command, a reset neither, touches (log entry 21). -/
def Obligations.EveryCommandAnswersNext : Prop :=
  ∀ (c : Instr) (s : State), ∃ t, exec c s = .next t ∧ t.pending = s.pending

/-- What ends every step (R175, R184 to R186): a transmitter that sends goes on; a free one is granted by rank; with the
hold OFF and none of the queue with the port the oldest report is handed to the port, also while another frame is sent or
goes first and where a report that a warm reset cut off has just left the place (R175, R176), and else none is; nothing but the ports and the waiting NOTICE changes. That the arbiters choose at the end of an indivisible step, among all that
the step left waiting, is the model's choice (log entry 11). -/
def Obligations.PortsServeByRank : Prop :=
  ∀ s : State,
    (∃ p w, s.settle = { s with ports := p, mgmt := { s.mgmt with noticeWaiting := w } }
        ∧ p.laneToUplink = s.ports.laneToUplink ∧ p.uplinkToLane = s.ports.uplinkToLane)
    ∧ (∀ x, s.ports.uplinkSending = some x → s.settle.ports.uplinkSending = some x)
    ∧ (s.ports.uplinkSending = none →
        (∀ r, s.ports.responsePlace = some r →
            s.settle.ports.uplinkSending = some (.response r) ∧ s.settle.ports.responsePlace = none)
        ∧ (s.ports.responsePlace = none → s.mgmt.noticeWaiting = true →
            s.settle.ports.uplinkSending = some (.notice s.mgmt.flags s.mgmt.clock)
              ∧ s.settle.mgmt.noticeWaiting = false)
        ∧ (s.ports.responsePlace = none → s.mgmt.noticeWaiting = false →
            (∀ h, s.ports.reportPlace = some h →
                s.settle.ports.uplinkSending = some (.report h)
                ∧ (h.ofQueue = true ∨ s.mgmt.hold = true ∨ s.mgmt.reportQueue = [] → s.settle.ports.reportPlace = none)
                ∧ (h.ofQueue = false → s.mgmt.hold = false → ∀ r q, s.mgmt.reportQueue = r :: q →
                    s.settle.ports.reportPlace = some ⟨r, true⟩ ∧ s.settle.mgmt.reportQueue = r :: q))
            ∧ (s.ports.reportPlace = none → s.mgmt.hold = false → ∀ r q, s.mgmt.reportQueue = r :: q →
                s.settle.ports.uplinkSending = some (.report ⟨r, true⟩) ∧ s.settle.mgmt.reportQueue = r :: q)
            ∧ (s.ports.reportPlace = none → (s.mgmt.hold = true ∨ s.mgmt.reportQueue = []) →
                ∀ f q, s.ports.laneToUplink = f :: q → s.settle.ports.uplinkSending = some .bridged)))
    ∧ (s.ports.uplinkSending ≠ none ∨ s.ports.responsePlace ≠ none ∨ s.mgmt.noticeWaiting = true →
        (∀ r q, s.mgmt.hold = false → s.ports.reportPlace = none →
            (∀ y, s.ports.uplinkSending ≠ some (.report ⟨y, true⟩)) → s.mgmt.reportQueue = r :: q →
            s.settle.ports.reportPlace = some ⟨r, true⟩ ∧ s.settle.mgmt.reportQueue = r :: q)
        ∧ (s.mgmt.hold = true ∨ s.mgmt.reportQueue = [] ∨ s.ports.reportPlace ≠ none
            ∨ (∃ y, s.ports.uplinkSending = some (.report ⟨y, true⟩)) →
            s.settle.ports.reportPlace = s.ports.reportPlace))
    ∧ (∀ x, s.ports.laneSending = some x → s.settle.ports.laneSending = some x)
    ∧ (s.ports.laneSending = none →
        (∀ a x b, s.ports.lanePlaces = a ++ x :: b → (∀ y ∈ a, y.urgent = false) → x.urgent = true →
            s.settle.ports.laneSending = some (.command x.command) ∧ s.settle.ports.lanePlaces = a ++ b)
        ∧ (∀ x b, s.ports.lanePlaces = x :: b → (∀ y ∈ x :: b, y.urgent = false) →
            s.settle.ports.laneSending = some (.command x.command) ∧ s.settle.ports.lanePlaces = b)
        ∧ (s.ports.lanePlaces = [] → ∀ f q, s.ports.uplinkToLane = f :: q →
            s.settle.ports.laneSending = some .bridged))

/-- UPLINK_TRANSMIT_DONE and LANE_TRANSMIT_DONE free the transmitter; a sent response makes the management unit IDLE, a
sent report leaves its queue and makes place for the oldest waiting visit, which raises REPORT_QUEUE_HIGH where 12 or
more then stand (R174, R170), a bridged frame leaves its queue. -/
def Obligations.TransmittersFinishTheirFrames : Prop :=
  ∀ s : State,
    (∀ r, s.ports.uplinkSending = some (.response r) →
      exec .uplinkTransmitDone s = .next (State.settle
        { s with ports := { s.ports with uplinkSending := none }, mgmt := { s.mgmt with unit := .idle } }))
    ∧ (∀ f c, s.ports.uplinkSending = some (.notice f c) →
      exec .uplinkTransmitDone s = .next (State.settle
        { s with ports := { s.ports with uplinkSending := none } }))
    ∧ (∀ f q, s.ports.uplinkSending = some .bridged → s.ports.laneToUplink = f :: q →
      exec .uplinkTransmitDone s = .next (State.settle
        { s with ports := { s.ports with uplinkSending := none, laneToUplink := q } }))
    ∧ (∀ r, s.ports.uplinkSending = some (.report ⟨r, false⟩) →
      exec .uplinkTransmitDone s = .next (State.settle
        { s with ports := { s.ports with uplinkSending := none } }))
    ∧ (∀ r q, s.ports.uplinkSending = some (.report ⟨r, true⟩) → s.mgmt.reportQueue = r :: q →
      s.mgmt.reportWait = [] →
      exec .uplinkTransmitDone s = .next (State.settle
        { s with ports := { s.ports with uplinkSending := none }, mgmt := { s.mgmt with reportQueue := q } }))
    ∧ (∀ r q v w, s.ports.uplinkSending = some (.report ⟨r, true⟩) → s.mgmt.reportQueue = r :: q →
      s.mgmt.reportWait = v :: w →
      ∃ t, exec .uplinkTransmitDone s = .next t
        ∧ t.mgmt.reportQueue = q ++ [⟨s.mgmt.reportNumber, s.mgmt.clock, s.visit v⟩]
        ∧ t.mgmt.reportWait = w ∧ t.mgmt.reportNumber = (s.mgmt.reportNumber + 1) % 65536
        ∧ (t.visit v).state = .free ∧ (t.visit v).number = 0 ∧ t.asm.freeList = s.asm.freeList ++ [v]
        ∧ (∀ i : RecNo, i ≠ v → t.visit i = s.visit i)
        ∧ (11 ≤ q.length → t.mgmt.flags.has .reportQueueHigh = true
          ∧ (s.mgmt.flags.has .reportQueueHigh = false → s.mgmt.mask.has .reportQueueHigh = true →
              (∃ g k, t.ports.uplinkSending = some (.notice g k)) ∨ t.mgmt.noticeWaiting = true))
        ∧ (q.length < 11 → t.mgmt.flags.has .reportQueueHigh = s.mgmt.flags.has .reportQueueHigh)
        ∧ (∀ k, k ≠ .reportQueueHigh → t.mgmt.flags.has k = s.mgmt.flags.has k))
    ∧ (∀ c, s.ports.laneSending = some (.command c) →
      exec .laneTransmitDone s = .next (State.settle { s with ports := { s.ports with laneSending := none } }))
    ∧ (∀ f q, s.ports.laneSending = some .bridged → s.ports.uplinkToLane = f :: q →
      exec .laneTransmitDone s = .next (State.settle
        { s with ports := { s.ports with laneSending := none, uplinkToLane := q } }))

/-- A counter event raises its counter alone by one and never past 4,294,967,295 (R173). An event of a class whose flag is
set changes nothing; else its flag alone becomes set, and a NOTICE waits when the class is enabled (R170, R171). -/
def Obligations.CountersSaturateAndEventsRaiseOnce : Prop :=
  (∀ s : State,
      (∀ k, ∃ c, s.count k = { s with mgmt := { s.mgmt with partCounters := c } }
        ∧ ∀ j, c.get j = if j = k then min (s.mgmt.partCounters.get j + 1) 4294967295 else s.mgmt.partCounters.get j)
      ∧ (∀ (l : Lane) k, ∃ d : Vector LaneCounters 12, s.countLane l k = { s with mgmt := { s.mgmt with laneCounters := d } }
        ∧ ∀ (m : Lane) j, (d[m]).get j
            = if m = l ∧ j = k then min ((s.mgmt.laneCounters[m]).get j + 1) 4294967295
              else (s.mgmt.laneCounters[m]).get j))
    ∧ (∀ (c : NoticeClass) (s : State),
        (s.mgmt.flags.has c = true → s.raise c = s)
        ∧ (s.mgmt.flags.has c = false →
            ∃ n w, s.raise c = { s with mgmt := { s.mgmt with flags := n, noticeWaiting := w } }
              ∧ (∀ d, n.has d = (decide (d = c) || s.mgmt.flags.has d))
              ∧ w = (s.mgmt.noticeWaiting || s.mgmt.mask.has c)))

/-- NOTICE_ACK clears the named flags and, with OVERRUN, the overrun flag; a level class whose flag is then clear and
whose condition holds is raised again; the response carries the flags that stand (R172, R11). That bits 9 to 15 of the
two bytes name no class and change nothing, the answer still OK, is the model's choice (log entry 15). -/
def Obligations.NoticeAckClearsAndReraises : Prop :=
  ∀ (s : State) (tag w : Nat) (rest : List Request), s.takes tag (.noticeAck w) rest →
    ∃ n x, exec .noticeAck s = .next (State.settle (State.answeredWith rest ⟨tag, 30, .ok, .notices n⟩
        { s with
          mgmt := { s.mgmt with flags := n, noticeWaiting := x }
          intake := { s.intake with overrun := s.intake.overrun && !w.testBit 1 } }))
      ∧ (∀ c : NoticeClass, n.has c = ((s.mgmt.flags.has c && !w.testBit c.bit) || s.levelHolds c))
      ∧ (x = true ↔ s.mgmt.noticeWaiting = true ∨ ∃ c : NoticeClass,
          s.levelHolds c = true ∧ (s.mgmt.flags.has c && !w.testBit c.bit) = false ∧ s.mgmt.mask.has c = true)

/-! ### The resets -/

/-- COLD_RESET: TABLE 1-4 whole, with what the reset tables of the other blocks give; the management unit waits for the
cold sweep, which holds the store, and takes no request (R59). -/
def Obligations.ColdResetSetsEveryBlock : Prop :=
  ∀ (u : Byte) (h : Bool) (s : State), ∃ t, exec (.coldReset u h) s = .next t
    ∧ ((∀ r : RecNo, (t.visit r).state = .free ∧ (t.visit r).number = 0) ∧ t.asm.freeList = List.finRange 48
      ∧ t.asm.nextNumber = 1 ∧ (∀ l : Lane, t.lane l = ⟨.closed, none, none⟩)
      ∧ t.intake.queue = [] ∧ t.intake.overrun = false ∧ (∀ l : Lane, t.intake.latches[l] = none)
      ∧ (∀ i : Fin 8, t.intake.codes[i] = ⟨0, .close, true⟩) ∧ t.check.queue = []
      ∧ (∀ k, t.mgmt.partCounters.get k = 0) ∧ (∀ (l : Lane) k, (t.mgmt.laneCounters[l]).get k = 0))
    ∧ ((∀ i : Fin 64, t.intake.stations[i] = none)
      ∧ (∀ i : Fin 64, (t.watch[i]).valid = false ∧ (t.watch[i]).predecessor = none)
      ∧ t.check.context = none ∧ t.store.partition = 1 ∧ t.store.granted = some (.mgmt .coldSweep)
      ∧ t.store.checkWaiting = none ∧ t.store.mgmtWaiting = none
      ∧ (∀ i : Fin 96, t.ring.slots[i] = none) ∧ t.ring.arrival = 0 ∧ t.ring.gap = true
      ∧ (∀ b : BlockNo, t.block b = { }) ∧ t.pacer.staged = [] ∧ t.pacer.laneWait = []
      ∧ (∀ r : RowNo, t.rowState r = .free))
    ∧ ((∀ p : Point, t.point p = { }) ∧ (∀ l : Lane, t.barrier l = ⟨false, none⟩ ∧ t.departures l = [])
      ∧ t.engine.pendings = [] ∧ t.mgmt.queue = [] ∧ t.mgmt.clock = 0 ∧ (∀ c, t.mgmt.flags.has c = false)
      ∧ (∀ c, t.mgmt.mask.has c = true) ∧ t.mgmt.noticeWaiting = false ∧ t.mgmt.reportQueue = []
      ∧ t.mgmt.reportWait = [] ∧ t.mgmt.hold = false ∧ t.mgmt.reportNumber = 0
      ∧ t.mgmt.params = ⟨30, 40, 3, 3, 90, 1800, 8, 0, ⟨1, 1, 1, 1, 1, 1⟩, 20, 60, 6, true⟩
      ∧ t.mgmt.unit = .sweeping ∧ t.mgmt.unitAddr = u ∧ t.mgmt.typeHigh = h ∧ t.ports = ⟨[], [], none, none, none, [], none⟩)

/-- WARM_RESET: what is set anew, what is kept, what is cut off, and the OK that follows (R178 and the reset tables). A
report in the report place or in transmission is still sent and is no longer of the queue, an idle transmitter stays
idle, and every frame handed over or begun stays (R176, R187). -/
def Obligations.WarmResetSetsEveryBlock : Prop :=
  ∀ (s : State) (tag : Nat) (rest : List Request), s.takes tag .warmReset rest →
    ∃ t, exec .warmReset s = .next (State.settle (State.answeredWith rest ⟨tag, 35, .ok, .none⟩ t))
      ∧ ((∀ r : RecNo, (t.visit r).state = .free ∧ (t.visit r).number = 0) ∧ t.asm.freeList = List.finRange 48
        ∧ t.asm.nextNumber = s.asm.nextNumber ∧ (∀ l : Lane, t.lane l = ⟨.closed, none, none⟩)
        ∧ t.intake.queue = [] ∧ t.intake.overrun = false ∧ (∀ l : Lane, t.intake.latches[l] = none)
        ∧ t.intake.codes = s.intake.codes ∧ t.intake.stations = s.intake.stations ∧ t.watch = s.watch
        ∧ t.check = ⟨[], none⟩ ∧ (∀ k, t.mgmt.partCounters.get k = 0)
        ∧ (∀ (l : Lane) k, (t.mgmt.laneCounters[l]).get k = 0))
      ∧ (t.store.partition = s.store.partition ∧ t.store.bookings = s.store.bookings
        ∧ t.store.index = s.store.index ∧ t.store.checkWaiting = none ∧ t.store.mgmtWaiting = none
        ∧ (∀ a x, s.store.granted = some (.check a x) → t.store.granted = some (.check a true))
        ∧ (s.store.granted = none → t.store.granted = none) ∧ t.ring = s.ring)
      ∧ ((∀ b : BlockNo, t.block b = { s.block b with
              adr := (s.block b).params.idr, credit := 0, dsf := 0, idleCountdown := (s.block b).params.idleReset,
              feedbackLost := false })
        ∧ t.pacer.staged = [] ∧ t.pacer.laneWait = [] ∧ (∀ r : RowNo, t.rowState r = .free)
        ∧ (∀ p : Point, t.point p = { sequence := (s.point p).sequence })
        ∧ (∀ l : Lane, t.barrier l = ⟨false, none⟩ ∧ t.departures l = []) ∧ t.engine.pendings = [])
      ∧ (t.mgmt.params = s.mgmt.params ∧ t.mgmt.mask = s.mgmt.mask ∧ t.mgmt.clock = s.mgmt.clock
        ∧ (∀ c, t.mgmt.flags.has c = false) ∧ t.mgmt.noticeWaiting = false ∧ t.mgmt.reportQueue = []
        ∧ t.mgmt.reportWait = [] ∧ t.mgmt.hold = false ∧ t.mgmt.reportNumber = s.mgmt.reportNumber
        ∧ t.mgmt.unitAddr = s.mgmt.unitAddr ∧ t.mgmt.typeHigh = s.mgmt.typeHigh)
      ∧ (t.ports.laneToUplink = s.ports.laneToUplink ∧ t.ports.uplinkToLane = s.ports.uplinkToLane
        ∧ t.ports.lanePlaces = s.ports.lanePlaces ∧ t.ports.laneSending = s.ports.laneSending
        ∧ t.ports.reportPlace = s.ports.reportPlace.map (fun h => ⟨h.report, false⟩)
        ∧ (s.ports.uplinkSending = none → t.ports.uplinkSending = none)
        ∧ (∀ r, s.ports.uplinkSending = some (.response r) → t.ports.uplinkSending = some (.response r))
        ∧ (∀ n c, s.ports.uplinkSending = some (.notice n c) → t.ports.uplinkSending = some (.notice n c))
        ∧ (∀ r x, s.ports.uplinkSending = some (.report ⟨r, x⟩) → t.ports.uplinkSending = some (.report ⟨r, false⟩))
        ∧ (s.ports.uplinkSending = some .bridged → t.ports.uplinkSending = some .bridged))

/-! ### The second event and the countdowns -/

/-- SECOND_EVENT: the clock (R168), with what no second event changes; the lanes, every running idle countdown falling by one
and a visit whose countdown reaches 0 closing with reason IDLE, in ascending lane number (R15); the ring (R68, R69); then
the yard blocks in ascending number, a DISABLED one passed over, and an ACTIVE one accruing, then making its idle
countdown step and then its release service (R122 to R124; the service is in CreditGoesToTheWaiters); then the
staging-limit work, every unreleased entry waiting one second more, timing out at the limit with STAGING_LONG, and the
entries then tested in queue order for their alternates (R139, R140; the release is in CreditGoesToTheWaiters); then the
direction engine, every resend and barrier countdown falling by one, and those that reach 0 treated as R153 and R161 say.
Three points are the model's choices: that the part's blocks work in the order R168 lists them (log entry 5), that the
direction engine lowers all its countdowns first and then treats points and after them barriers in ascending number (log
entry 5), and that a second event makes its expiries itself while RESEND_COUNTDOWN_EXPIRY and BARRIER_COUNTDOWN_EXPIRY
act as commands of their own at a countdown of 1 or less (log entry 4). -/
def Obligations.SecondEventDoesItsWork : Prop :=
  (∀ s : State, ∃ t, exec .secondEvent s = .next t
      ∧ t.mgmt.clock = min (s.mgmt.clock + 1) 4294967295
      ∧ t.ring.slots = s.ring.slots
      ∧ (let started := s.ring.arrival < 4294967295
            ∧ ∃ w, s.ring.window? (s.ring.arrival + 1) = some w ∧ w.start ≤ t.mgmt.clock
         let covers := ∃ w, s.ring.window? s.ring.arrival = some w ∧ w.start ≤ t.mgmt.clock
            ∧ t.mgmt.clock < w.start + w.length
         let lasts := ∃ w, s.ring.window? s.ring.arrival = some w ∧ t.mgmt.clock < w.start + w.length
         (s.ring.gap = false → started → t.ring.arrival = s.ring.arrival + 1 ∧ t.ring.gap = false)
         ∧ (s.ring.gap = false → ¬ started → ¬ lasts → t.ring.arrival = s.ring.arrival ∧ t.ring.gap = true)
         ∧ (s.ring.gap = false → ¬ started → lasts → t.ring.arrival = s.ring.arrival ∧ t.ring.gap = false)
         ∧ (s.ring.gap = true → covers → t.ring.arrival = s.ring.arrival ∧ t.ring.gap = false)
         ∧ (s.ring.gap = true → ¬ covers → started → t.ring.arrival = s.ring.arrival + 1 ∧ t.ring.gap = false)
         ∧ (s.ring.gap = true → ¬ covers → ¬ started → t.ring.arrival = s.ring.arrival ∧ t.ring.gap = true))
      ∧ SameTables s t ∧ t.store = s.store ∧ t.intake = s.intake ∧ t.check.context = s.check.context
      ∧ t.mgmt.queue = s.mgmt.queue ∧ t.mgmt.unit = s.mgmt.unit ∧ t.mgmt.hold = s.mgmt.hold
      ∧ t.asm.nextNumber = s.asm.nextNumber)
    ∧ (∀ s : State, ∃ t, exec .secondEvent s = .next t
        ∧ (∀ b : BlockNo, (s.block b).active = false → t.block b = s.block b)
        ∧ (s.pacer.staged = [] → s.pacer.laneWait = [] →
            t.pacer.staged = [] ∧ t.pacer.laneWait = []
            ∧ ∀ b : BlockNo, (s.block b).active = true →
              (t.block b).credit = min ((s.block b).credit + (s.block b).adr) ((s.block b).params.burst * 57600)
              ∧ (t.block b).idleCountdown
                  = (if (s.block b).params.idleReset = 0 then (s.block b).idleCountdown
                     else (s.block b).idleCountdown - 1)
              ∧ (t.block b).adr
                  = (if (s.block b).params.idleReset ≠ 0 ∧ (s.block b).idleCountdown = 1 then
                       min (s.block b).adr (s.block b).params.idr
                     else (s.block b).adr)
              ∧ t.block b = { s.block b with
                  credit := (t.block b).credit, idleCountdown := (t.block b).idleCountdown, adr := (t.block b).adr }))
    ∧ (∀ s : State, ∃ t, exec .secondEvent s = .next t
        ∧ (∀ l : Lane,
            ((s.lane l).idleCountdown = none → t.lane l = s.lane l)
            ∧ (∀ n, (s.lane l).idleCountdown = some n → 2 ≤ n →
                t.lane l = { s.lane l with idleCountdown := some (n - 1) })
            ∧ (∀ n, (s.lane l).idleCountdown = some n → n ≤ 1 →
                t.lane l = { s.lane l with openVisit := none, idleCountdown := none }
                ∧ ∀ r, (s.lane l).openVisit = some r →
                    (t.visit r).closeReason = some .idle ∧ (t.visit r).closedAt = some (min (s.mgmt.clock + 1) 4294967295)))
        ∧ t.check.queue = s.check.queue ++ (List.finRange 12).filterMap (fun l =>
            match (s.lane l).idleCountdown with
            | some n => if n ≤ 1 then (s.lane l).openVisit else none
            | none => none))
    ∧ ((∀ s u : State, u = forEach 32 (fun b t => t.blockSecond b) s.tickClock.assemblerSecond.ringSecond →
          exec .secondEvent s = .next (State.settle (State.engineSecond
            ((u.pacer.staged.map StagedEntry.visit).foldl (fun t n => t.serveAlternate n) u.waitStaged))))
      ∧ (∀ (s : State) (b : BlockNo) (x : YardBlock), x = s.block b →
          (x.active = false → s.blockSecond b = s)
          ∧ (x.active = true → s.blockSecond b = State.releaseService b
              { s with pacer := { s.pacer with
                  blocks := s.pacer.blocks.set b.val
                    { x with
                      credit := min (x.credit + x.adr) (x.params.burst * 57600)
                      idleCountdown := if x.params.idleReset = 0 then x.idleCountdown else x.idleCountdown - 1
                      adr := if x.params.idleReset ≠ 0 ∧ x.idleCountdown = 1 then min x.adr x.params.idr else x.adr } } }))
      ∧ (∀ (s : State) (q : List StagedEntry) (late : Prop),
          q = s.pacer.staged.map (fun e => if e.released then e else
            { e with
              waited := min (e.waited + 1) 65535
              timedOut := e.timedOut || decide (s.mgmt.params.stagingLimit ≤ min (e.waited + 1) 65535) }) →
          (late ↔ ∃ e ∈ s.pacer.staged, e.released = false ∧ e.timedOut = false
            ∧ s.mgmt.params.stagingLimit ≤ min (e.waited + 1) 65535) →
          (late → s.waitStaged = State.raise .stagingLong { s with pacer := { s.pacer with staged := q } })
          ∧ (¬ late → s.waitStaged = { s with pacer := { s.pacer with staged := q } })
          ∧ ((∀ b : BlockNo, (s.block b).active = true →
                min ((s.block b).credit + (s.block b).adr) ((s.block b).params.burst * 57600) < 57600) →
              (∀ (p : Point) (n : Nat), (s.point p).resendCountdown = some n → 2 ≤ n) →
              ∃ t, exec .secondEvent s = .next t ∧ t.pacer.staged = q ∧ t.pacer.laneWait = s.pacer.laneWait
                ∧ (t.mgmt.flags.stagingLong = true ↔ s.mgmt.flags.stagingLong = true ∨ late))))
    ∧ ((∀ s : State, ∃ ps bs, s.engineTick = { s with engine := { s.engine with points := ps, barriers := bs } }
          ∧ (∀ p : Point, ps[p] = { s.point p with
              resendCountdown := (s.point p).resendCountdown.map (fun n => n - 1) })
          ∧ ∀ l : Lane, bs[l] = { s.barrier l with countdown := (s.barrier l).countdown.map (fun n => n - 1) })
      ∧ (∀ s u v : State, u = s.engineTick →
          v = ((List.finRange 14).filter (fun p => (u.point p).resendCountdown = some 0)).foldl
            (fun t p => t.resendExpired p) u →
          s.engineSecond = ((List.finRange 12).filter (fun l => (v.barrier l).countdown = some 0)).foldl
            (fun t l => t.barrierExpired l) v)
      ∧ (∀ (s : State) (c : Nat), c ≤ 1 →
          (∀ p : Point, (s.point p).resendCountdown = some c →
            exec (.resendCountdownExpiry (p.val + 1)) s = .next (State.settle (s.resendExpired p)))
          ∧ ∀ l : Lane, (s.barrier l).countdown = some c →
            exec (.barrierCountdownExpiry (l.val + 1)) s = .next (State.settle (s.barrierExpired l)))
      ∧ (∀ s : State, ∃ t, exec .secondEvent s = .next t
          ∧ (∀ (p : Point) (n : Nat) (d : Direction) (u : Bool), (s.point p).displayed? = some (d, u) →
              (s.point p).resendCountdown = some n →
              (2 ≤ n → (t.point p).displayed? = some (d, u) ∧ (t.point p).resendCountdown = some (n - 1)
                ∧ (t.point p).displaySequence = (s.point p).displaySequence
                ∧ (t.point p).resendCount = (s.point p).resendCount)
              ∧ (n ≤ 1 → ∀ st q, s.displayStation p = some st → (s.point p).displaySequence = some q →
                (s.point p).resendCount < s.mgmt.params.resendLimit →
                (t.point p).displayed? = some (d, u)
                  ∧ (t.point p).resendCountdown = some s.mgmt.params.resendInterval
                  ∧ (t.point p).displaySequence = some q ∧ (t.point p).resendCount = (s.point p).resendCount + 1
                  ∧ (⟨u, .direction st p d q⟩ ∈ t.ports.lanePlaces
                    ∨ t.ports.laneSending = some (.command (.direction st p d q))))
              ∧ (n ≤ 1 → (s.displayStation p = none ∨ s.mgmt.params.resendLimit ≤ (s.point p).resendCount) →
                t.mgmt.flags.displayFault = true
                ∧ ∀ v r, d.visit = some v → (s.visit r).state ≠ .free → (∀ i : RecNo, (s.visit i).number = v ↔ i = r) →
                  (t.visit r).marks.unconfirmed = true))
          ∧ (∀ (l : Lane) (n : Nat), (s.barrier l).raising = true → (s.barrier l).countdown = some n →
              (2 ≤ n → t.barrier l = ⟨true, some (n - 1)⟩)
              ∧ (n ≤ 1 → t.barrier l = ⟨true, none⟩ ∧ t.mgmt.flags.barrierFault = true))))

/-- The expiries that come as commands: IDLE_COUNTDOWN_EXPIRY (R15, R20), BARRIER_COUNTDOWN_EXPIRY (R161),
BLOCK_IDLE_COUNTDOWN_EXPIRY (R123), STAGING_LIMIT_TIMEOUT (R139), and RESEND_COUNTDOWN_EXPIRY (R153): below the resend
limit the message in display is placed again for the station designated now, with its sequence; at the limit, or without
a display station, it is retired UNCONFIRMED: it leaves, DISPLAY_FAULT is raised, its visit is marked, it is handed on
and the point sends what comes next (CompletesAt; R150, R151, R154). That an expiry comes as a command of its own, when its countdown stands at
1 or less, is the model's choice (log entry 4). -/
def Obligations.CountdownsExpire : Prop :=
  ((∀ (s : State) (l : Lane) (c : Nat) (r : RecNo), (s.lane l).idleCountdown = some c → c ≤ 1 →
        (s.lane l).openVisit = some r →
        exec (.idleCountdownExpiry (l.val + 1)) s = .next (State.settle
          { s with
            asm := { s.asm with
              visits := s.asm.visits.set r.val { s.visit r with
                state := .checking, closedAt := some s.mgmt.clock, closeReason := some .idle }
              lanes := s.asm.lanes.set l.val { s.lane l with openVisit := none, idleCountdown := none } }
            check := { s.check with queue := s.check.queue ++ [r] }
            engine := { s.engine with
              departures := s.engine.departures.set l.val (s.departures l ++ [⟨r, false⟩]) } }))
      ∧ (∀ (s : State) (l : Lane) (c : Nat), (s.barrier l).countdown = some c → c ≤ 1 →
        exec (.barrierCountdownExpiry (l.val + 1)) s = .next (State.settle (State.raise .barrierFault
          { s with engine := { s.engine with
              barriers := s.engine.barriers.set l.val { s.barrier l with countdown := none } } })))
      ∧ (∀ (s : State) (b : BlockNo), (s.block b).active = true → (s.block b).params.idleReset ≠ 0 →
        (s.block b).idleCountdown = 1 →
        exec (.blockIdleCountdownExpiry (b.val + 1)) s = .next (State.settle
          { s with pacer := { s.pacer with
              blocks := s.pacer.blocks.set b.val { s.block b with
                idleCountdown := 0
                adr := if (s.block b).params.idr < (s.block b).adr then (s.block b).params.idr else (s.block b).adr } } }))
      ∧ (∀ (s : State) (a b : List StagedEntry) (e : StagedEntry), s.pacer.staged = a ++ e :: b →
        (∀ x ∈ a ++ b, x.visit ≠ e.visit) → e.released = false → e.timedOut = false →
        s.mgmt.params.stagingLimit ≤ min (e.waited + 1) 65535 →
        exec (.stagingLimitTimeout e.visit) s = .next (State.settle (State.raise .stagingLong
          { s with pacer := { s.pacer with
              staged := a ++ { e with waited := min (e.waited + 1) 65535, timedOut := true } :: b } }))))
    ∧ (∀ (s : State) (p : Point) (c q : Nat) (d : Direction) (u : Bool), (s.point p).resendCountdown = some c → c ≤ 1 →
        (s.point p).displayed? = some (d, u) → (s.point p).displaySequence = some q →
        (∀ st, s.displayStation p = some st → (s.point p).resendCount < s.mgmt.params.resendLimit →
          exec (.resendCountdownExpiry (p.val + 1)) s = .next (State.settle (State.placeLane ⟨u, .direction st p d q⟩
            { s with engine := { s.engine with
                points := s.engine.points.set p.val { s.point p with
                  resendCount := (s.point p).resendCount + 1
                  resendCountdown := some s.mgmt.params.resendInterval } } })))
        ∧ ((s.displayStation p = none ∨ s.mgmt.params.resendLimit ≤ (s.point p).resendCount) →
          ∃ t, exec (.resendCountdownExpiry (p.val + 1)) s = .next t ∧ t.mgmt.flags.has .displayFault = true
            ∧ (∀ v r, d.visit = some v → s.findVisit v = some r → (t.visit r).marks.unconfirmed = true)
            ∧ ∃ x, CompletesAt s x p true ∧ t = x.settle))

/-! ### Frames at the ports -/

/-- FRAME_DISCARD, MALFORMED_MESSAGE and UPLINK_LANE_COMMAND: a frame with a wrong check sequence or outside 64 to 1518
bytes reaches nothing; a frame of the selected type that is malformed, or of a class its port does not take, is counted
and dropped (R180 to R182). PASS_THROUGH_FRAME: a frame of another type joins the queue toward the other port unchanged,
or, with 32 frames there, is dropped and counted for its direction (R183). -/
def Obligations.FramesAreDroppedOrBridged : Prop :=
  (∀ (s : State) (f : Frame),
      (∀ p, (f.fcsGood = false ∨ f.length < 64 ∨ 1518 < f.length) → exec (.frameDiscard p f) s = .next s.settle)
      ∧ (∀ p, f.fcsGood = true → 64 ≤ f.length → f.length ≤ 1518 → f.etherType = s.selectedType →
          (f.payload.length < 8 ∨ byteAt f.payload 0 ≠ 1 ∨ byteAt f.payload 1 = 0 ∨ 7 < byteAt f.payload 1
            ∨ f.payload.length < 8 + wordAt f.payload 6 ∨ message? f.payload = none) →
          exec (.malformedMessage p f) s = .next (State.settle (s.count .malformed)))
      ∧ (∀ m, s.accepts f m → (∀ r, m ≠ .laneReport r) →
          exec (.malformedMessage .lane f) s = .next (State.settle (s.count .malformed)))
      ∧ (∀ m, s.accepts f m → (m = .other ∨ ∃ r, m = .laneReport r) →
          exec (.malformedMessage .uplink f) s = .next (State.settle (s.count .malformed)))
      ∧ (s.accepts f .laneCommand →
          exec (.uplinkLaneCommand f) s = .next (State.settle (s.count .laneCommandDrops))))
    ∧ (∀ (s : State) (f : Frame), f.fcsGood = true → 64 ≤ f.length → f.length ≤ 1518 →
        f.etherType ≠ (if s.mgmt.typeHigh then 0x88B6#16 else 0x88B5#16) →
        (s.ports.laneToUplink.length < 32 →
          exec (.passThroughFrame .lane f) s = .next (State.settle
            { s with ports := { s.ports with laneToUplink := s.ports.laneToUplink ++ [f] } }))
        ∧ (32 ≤ s.ports.laneToUplink.length →
          exec (.passThroughFrame .lane f) s = .next (State.settle (s.count .laneToUplinkDrops)))
        ∧ (s.ports.uplinkToLane.length < 32 →
          exec (.passThroughFrame .uplink f) s = .next (State.settle
            { s with ports := { s.ports with uplinkToLane := s.ports.uplinkToLane ++ [f] } }))
        ∧ (32 ≤ s.ports.uplinkToLane.length →
          exec (.passThroughFrame .uplink f) s = .next (State.settle (s.count .uplinkToLaneDrops))))

/-- LANE_REPORT: with the mirror ON a copy joins the LANE-to-UPLINK queue or is dropped there; the report joins the
intake queue, or at 64 reports is dropped: counted, every ASSEMBLING visit marked GAP, and OVERRUN raised when the
overrun flag was clear (R181, R8, R10). -/
def Obligations.LaneReportsArrive : Prop :=
  ∀ (s u : State) (f : Frame) (x : LaneReport), s.accepts f (.laneReport x) →
    u = (if s.mgmt.params.mirror then
           if s.ports.laneToUplink.length < 32 then
             { s with ports := { s.ports with laneToUplink := s.ports.laneToUplink ++ [f] } }
           else s.count .laneToUplinkDrops
         else s) →
    (s.intake.queue.length < 64 →
      exec (.laneReport f) s = .next (State.settle
        { u with intake := { s.intake with queue := s.intake.queue ++ [x] } }))
    ∧ (64 ≤ s.intake.queue.length →
      ∃ vs : Vector Visit 48, (∀ i : RecNo, vs[i] = if (s.visit i).state = .assembling then
                { s.visit i with marks := { (s.visit i).marks with gap := true } } else s.visit i)
        ∧ (s.intake.overrun = true →
            exec (.laneReport f) s = .next (State.settle
              (State.count .overrunDrops { u with asm := { s.asm with visits := vs } })))
        ∧ (s.intake.overrun = false →
            exec (.laneReport f) s = .next (State.settle (State.raise .overrun
              (State.count .overrunDrops
                { u with asm := { s.asm with visits := vs }, intake := { s.intake with overrun := true } })))))

/-- YARD_STATE: the feedback update of an ACTIVE block, an update for a block that cannot take it, and a message for another
unit (R116, R117, R182). MGMT_REQUEST: a request for the unit joins the request queue, or at 8 requests is dropped
without a response and counted; one for another unit is malformed (R165, R182). -/
def Obligations.UplinkMessagesAreTaken : Prop :=
  (∀ (s : State) (f : Frame) (st n : Nat) (ci ni : Bool) (er : Option Nat), s.accepts f (.yardState st n ci ni er) →
      (∀ (b : BlockNo) (a : Nat), st = s.mgmt.unitAddr.toNat → n = b.val + 1 → (s.block b).written = true →
        (s.block b).active = true →
        a = (let stepped :=
               if ci then (s.block b).adr - (s.block b).adr * (s.block b).params.df / 256
               else if ni then (s.block b).adr
               else (s.block b).adr + (s.block b).params.ais
             let capped := min stepped (s.block b).params.pdr
             let ceiled := match er with
               | some e => min capped (min e 16383)
               | none => capped
             max ceiled (s.block b).params.mdr) →
        exec (.yardState f) s = .next (State.settle
          { s with pacer := { s.pacer with
              blocks := s.pacer.blocks.set b.val { s.block b with adr := a, dsf := 0, feedbackLost := false } } }))
      ∧ (st = s.mgmt.unitAddr.toNat →
        (n = 0 ∨ 32 < n ∨ ∃ b : BlockNo, n = b.val + 1 ∧ ((s.block b).written = false ∨ (s.block b).active = false)) →
        exec (.yardState f) s = .next (State.settle (s.count .unknownFeedback)))
      ∧ (st ≠ s.mgmt.unitAddr.toNat → exec (.yardState f) s = .next (State.settle (s.count .malformed))))
    ∧ (∀ (s : State) (f : Frame) (st : Nat) (q : Request), s.accepts f (.mgmtRequest st q) →
        (st = s.mgmt.unitAddr.toNat → s.mgmt.queue.length < 8 →
          exec (.mgmtRequest f) s = .next (State.settle
            { s with mgmt := { s.mgmt with queue := s.mgmt.queue ++ [q] } }))
        ∧ (st = s.mgmt.unitAddr.toNat → 8 ≤ s.mgmt.queue.length →
          exec (.mgmtRequest f) s = .next (State.settle (s.count .mgmtDrops)))
        ∧ (st ≠ s.mgmt.unitAddr.toNat → exec (.mgmtRequest f) s = .next (State.settle (s.count .malformed))))

/-- A LANE_REPORT built by TABLE 11-4 is read back whole, whatever its lane-or-point field, tag and padding; and what is
read as a report lies within its values (R180, R188). -/
def Obligations.LaneReportLayouts : Prop :=
  (∀ (st lp tag : Nat) (b : ReportBody) (padding : List Byte), st ≤ 255 → lp ≤ 255 → tag ≤ 65535 → b.legal = true →
      message? (encPayload 1 st lp tag (encReportBody b) padding) = some (.laneReport ⟨st, b⟩))
    ∧ (∀ (p : List Byte) (x : LaneReport), message? p = some (.laneReport x) →
        x.station ≤ 255 ∧ x.body.legal = true)

/-- Every request whose fields fit their bytes, encoded by R188, is read back as that request, alone and as the body of
a MGMT_REQUEST message. That the fields stand in the order chosen for R188's "in the order that rule lists them" is
the model's reading (log entry 9). -/
def Obligations.RequestsRoundTrip : Prop :=
  ∀ (m : MgmtRequest), m.fits = true →
    request? (encRequest m) = some m
    ∧ ∀ (st lp tag : Nat) (padding : List Byte), st ≤ 255 → lp ≤ 255 → tag ≤ 65535 →
        message? (encPayload 4 st lp tag (encRequest m) padding) = some (.mgmtRequest st ⟨tag, encRequest m⟩)

/-- The frames the part sends. At the UPLINK port a response, a NOTICE and a visit report are built with the unit address
as station and 0 as lane or point, a response with its request's tag and the others with 0; at the LANE port a DIRECTION
with its station and point and a BARRIER_RAISE with its station and lane; a bridged frame is the head of its queue as
received (R183 to R186, TABLE 11-4). The bodies of NOTICE, DIRECTION, BARRIER_RAISE and, with texts and lists that fit
their places (StoredFits), VISIT_REPORT are the fields of TABLES 11-5 and 11-6, 219 bytes for a report; marks and classes
are sets by their bits, and the hit set has bit i for entry i (R188). That a plate's confidence and a container's fields
are 0 when absent, and the bits' place in the 8 bytes, are the model's reading (log entry 9); that a LANE_COMMAND's tag
is 0 is its choice (log entry 14), and the padding bytes are left free (log entry 8). -/
def Obligations.BuiltMessageLayouts : Prop :=
  (∀ s : State,
      (s.ports.uplinkSending = none → s.uplinkOutput = none) ∧ (s.ports.laneSending = none → s.laneOutput = none)
      ∧ (∀ f q, s.ports.uplinkSending = some .bridged → s.ports.laneToUplink = f :: q → s.uplinkOutput = some f)
      ∧ (∀ f q, s.ports.laneSending = some .bridged → s.ports.uplinkToLane = f :: q → s.laneOutput = some f)
      ∧ (∀ x cls tag body, s.ports.uplinkSending = some x →
          ((∃ r, x = .response r ∧ cls = 5 ∧ tag = r.tag ∧ body = encResponse r)
            ∨ (∃ h, x = .report h ∧ cls = 6 ∧ tag = 0 ∧ body = encReport h.report)
            ∨ ∃ n c, x = .notice n c ∧ cls = 7 ∧ tag = 0 ∧ body = encNotice n c) →
          ∃ f, s.uplinkOutput = some f ∧ s.Built f cls s.mgmt.unitAddr.toNat 0 tag body)
      ∧ (∀ st (p : Point) d q, s.ports.laneSending = some (.command (.direction st p d q)) →
          ∃ f, s.laneOutput = some f ∧ s.Built f 2 st (p.val + 1) 0 (encCommand (.direction st p d q)))
      ∧ (∀ st (l : Lane) v, s.ports.laneSending = some (.command (.barrierRaise st l v)) →
          ∃ f, s.laneOutput = some f ∧ s.Built f 2 st (l.val + 1) 0 (encCommand (.barrierRaise st l v))))
    ∧ (∀ st p d q, MadeOf (encCommand (.direction st p d q)) 0 [(1, 1), enumField directionKinds (some d.kind), (1, q),
        (2, d.visit.getD 0), placeField d.block, placeField d.row, (1, d.template)])
    ∧ (∀ st l v, MadeOf (encCommand (.barrierRaise st l v)) 0 [(1, 2), (2, v)])
    ∧ (∀ n c, MadeOf (encNotice n c) 0 [(2, n.toBits), (4, c)] ∧ n.toBits < 512
        ∧ ∀ k : NoticeClass, n.toBits.testBit k.bit = n.has k)
    ∧ (∀ r : VisitReport, r.visit.Fits → (encReport r).length = 219
        ∧ (∃ hits, (∀ i, hits.testBit i = true ↔ i ∈ r.visit.hitSet) ∧ MadeOf (encReport r) 0 (reportFields r hits))
        ∧ ∀ m : Marks, r.visit.marks = m → m.toBits < 64
          ∧ [0, 1, 2, 3, 4, 5].map m.toBits.testBit
            = [m.gap, m.overflow, m.conflict, m.plateConflict, m.stopIssued, m.unconfirmed])

/-- The body of a MGMT_RESPONSE: the request kind, the status, then the result fields its owning rule names, each by TABLE
11-2 (R188, TABLE 11-5), the texts and lists within their places (StoredFits); a response without results is these two
bytes. The order of the fields, and what stands for a field that does not apply or is absent, are the model's reading
(log entry 9). -/
def Obligations.ResponseLayouts : Prop :=
  (∀ r : Response, r.results.Fits →
      ∃ hits, (∀ v p, r.results = .visit v p → ∀ i, hits.testBit i = true ↔ i ∈ v.hitSet)
        ∧ MadeOf (encResponse r) 0 ((1, r.kind) :: enumField statuses (some r.status) :: r.results.fields hits))
    ∧ (∀ r : Response, r.results = .none → (encResponse r).length = 2)
    ∧ (∀ (s : State) (r : Response), s.StoredFits → s.ports.uplinkSending = some (.response r) → r.results.Fits)

/-! ### Lane reports taken -/

/-- Where a taken report goes nowhere (R30, R31, R12): an unknown station, a combination that TABLE 2-1 does not list, a
CLOSED lane, and an OPEN lane without a visit when no record is free. And from its 33rd report on a visit merges nothing:
the report is counted and discarded, and OVERFLOW is set (R14). -/
def Obligations.ReportsThatMergeNothing : Prop :=
  (∀ (s u : State) (st : Nat) (b : ReportBody) (q : List LaneReport), s.intake.queue = ⟨st, b⟩ :: q →
      u = { s with intake := { s.intake with queue := q } } →
      (s.stationOf st = none → exec b.command s = .next (State.settle (u.count .unknownStations)))
      ∧ (∀ e, s.stationOf st = some e →
          (((b.mergeable = true ∨ ∃ n, b = .signal n) ∧ pointLane? e.point = none)
            ∨ ((∃ n, b = .shown n) ∧ e.role ≠ .display)
            ∨ (b = .passed ∧ (e.role ≠ .barrier ∨ pointLane? e.point = none))) →
          exec b.command s = .next (State.settle (u.count .misrouted)))
      ∧ (∀ e l, s.stationOf st = some e → pointLane? e.point = some l → b.mergeable = true →
          ((s.lane l).state = .closed →
            exec b.command s = .next (State.settle ((u.countLane l .reportsTaken).countLane l .closedDiscards)))
          ∧ ((s.lane l).state = .opened → (s.lane l).openVisit = none → s.asm.freeList = [] →
            exec b.command s = .next (State.settle ((u.countLane l .reportsTaken).countLane l .busyDiscards)))))
    ∧ (∀ (s : State) (st : Nat) (b : ReportBody) (q : List LaneReport) (l : Lane) (r : RecNo) (n : Nat),
        s.reads st b q l → b.mergeable = true → s.mergesInto l r n → 33 ≤ n →
        exec b.command s = .next (State.settle (State.countLane l .reportsTaken
          { s with
            intake := { s.intake with queue := q }
            asm := { s.asm with
              visits := s.asm.visits.set r.val { s.visit r with
                fragments := n
                discarded := min ((s.visit r).discarded + 1) 65535
                marks := { (s.visit r).marks with overflow := true } }
              lanes := s.asm.lanes.set l.val { s.lane l with idleCountdown := some s.mgmt.params.idleLimit } } })))

/-- Each of the six mergeable kinds opens a visit on an OPEN lane without one: the record at the head of the free list, its
number, the first fragment, the counters, the idle countdown, and VISIT_STORE_LOW with 4 or fewer records left (R12 to
R14, R4). Every field of the record but those is absent, empty or 0, whatever its last visit left there (R13), and the
read is then treated as for a visit already open, so its merge is that of the statements below. The number is the first from the next-visit-number register on, 65535 followed by 1, that no record in use
carries (R3). -/
def Obligations.FirstReadOpensAVisit : Prop :=
  (∀ (s : State) (st : Nat) (b : ReportBody) (q : List LaneReport) (l : Lane) (r : RecNo) (rest : List RecNo),
      s.reads st b q l → b.mergeable = true → (s.lane l).state = .opened → (s.lane l).openVisit = none →
      s.asm.freeList = r :: rest →
      ∃ t, exec b.command s = .next t ∧ t.intake.queue = q
        ∧ t.asm.freeList = rest ∧ t.lane l = ⟨.opened, some r, some s.mgmt.params.idleLimit⟩
        ∧ (t.visit r).number = s.freshNumber 48 s.asm.nextNumber ∧ (t.visit r).lane = l
        ∧ (t.visit r).state = .assembling ∧ (t.visit r).openedAt = s.mgmt.clock ∧ (t.visit r).fragments = 1
        ∧ (t.visit r).discarded = 0 ∧ (t.visit r).closedAt = none ∧ (t.visit r).closeReason = none
        ∧ (t.visit r).codes = [] ∧ (t.visit r).verdict = none ∧ (t.visit r).outcome = none
        ∧ (t.mgmt.laneCounters[l]).reportsTaken = satInc max32 (s.mgmt.laneCounters[l]).reportsTaken
        ∧ (t.mgmt.laneCounters[l]).visitsOpened = satInc max32 (s.mgmt.laneCounters[l]).visitsOpened
        ∧ (rest.length ≤ 4 → t.mgmt.flags.has .visitStoreLow = true)
        ∧ SameTables s t ∧ SameJudging s t ∧ SameReporting s t
        ∧ (∀ m : Lane, m ≠ l → t.lane m = s.lane m)
        ∧ (∀ i : RecNo, i ≠ r → (t.visit i).readFields = (s.visit i).readFields)
        ∧ (t.visit r).marks.gap = false ∧ (t.visit r).marks.overflow = false ∧ (t.visit r).marks.conflict = false
        ∧ (t.visit r).marks.plateConflict = false
        ∧ (t.visit r).bookingIndex = none ∧ (t.visit r).dispatch = none ∧ (t.visit r).alternate = none
        ∧ (t.visit r).disposition = none ∧ (t.visit r).row = none ∧ (t.visit r).finalDisposition = none
        ∧ (∀ k, ((t.visit r).at k).sealVerdict = none ∧ ((t.visit r).at k).damageScore = none
            ∧ ((t.visit r).at k).damageVerdict = none)
        ∧ ∃ (v : Visit) (o : State), v.FreshlyOpened (s.freshNumber 48 s.asm.nextNumber) l s.mgmt.clock
            ∧ o = (if rest.length ≤ 4 then State.raise .visitStoreLow else id) (State.countLane l .visitsOpened
                { s with asm := { s.asm with
                    visits := s.asm.visits.set r.val v
                    freeList := rest
                    nextNumber := (s.openVisit l r rest).asm.nextNumber
                    lanes := s.asm.lanes.set l.val ⟨.opened, some r, some s.mgmt.params.idleLimit⟩ } })
            ∧ o.reads st b q l ∧ o.mergesInto l r 1 ∧ exec b.command s = exec b.command o)
    ∧ (∀ s : State, 1 ≤ s.asm.nextNumber → s.asm.nextNumber ≤ 65535 → (∃ i : RecNo, (s.visit i).state = .free) →
        ∃ k, k < 48 ∧ s.freshNumber 48 s.asm.nextNumber = (s.asm.nextNumber - 1 + k) % 65535 + 1
          ∧ s.findVisit (s.freshNumber 48 s.asm.nextNumber) = none
          ∧ (∀ j, j < k → (s.findVisit ((s.asm.nextNumber - 1 + j) % 65535 + 1)).isSome = true)
          ∧ ∀ (l : Lane) (r : RecNo) (rest : List RecNo),
              (s.openVisit l r rest).asm.nextNumber = (s.asm.nextNumber - 1 + k + 1) % 65535 + 1)

/-- For a lane's visit within its first 32 reports, with the frame. PLATE_READ: the kept plate by TABLE 2-2, PLATE_CONFLICT
for another text at equal confidence, and nothing below the confidence floor (R32, R34). CREDENTIAL_READ and
BOOKING_ENTRY: the last read is kept, and a reference with tag 0 merges nothing and is counted (R35, R36). A changed kept
value, and no other, is passed at once to the watch matcher under its key kind, which gives the hit set, the hit list and
the strongest action after the merge (R41, TABLES 2-6 and 2-7; WatchMatchingEnds). -/
def Obligations.PlatesCredentialsReferencesMerge : Prop :=
  (∀ (s : State) (st : Nat) (x : Text) (c : Nat) (q : List LaneReport) (l : Lane) (r : RecNo) (n : Nat),
      s.reads st (.plate x c) q l → s.mergesInto l r n → n ≤ 32 →
      ∃ t, exec .plateRead s = .next t ∧ t.intake.queue = q ∧ MergeFrame s t l r ∧ MergeLane s t l r
        ∧ (c < s.mgmt.params.confidenceFloor →
            (t.visit r).readFields = { (s.visit r).readFields with fragments := n }
            ∧ (t.visit r).marks = (s.visit r).marks
            ∧ t.mgmt.partCounters = s.mgmt.partCounters.bump .lowConfidence)
        ∧ (s.mgmt.params.confidenceFloor ≤ c →
            (t.visit r).readFields
              = { (s.visit r).readFields with
                  fragments := n
                  plate := (match (s.visit r).plate with
                    | none => some ⟨x, c⟩
                    | some k =>
                      if k.text = x then some ⟨x, max k.confidence c⟩
                      else if k.confidence < c then some ⟨x, c⟩
                      else some k) }
            ∧ ((t.visit r).marks.plateConflict = true ↔
                (s.visit r).marks.plateConflict = true
                  ∨ ∃ k, (s.visit r).plate = some k ∧ k.text ≠ x ∧ k.confidence = c))
        ∧ (s.mgmt.params.confidenceFloor ≤ c → ∀ u v, u = s.takenAs q l r v →
            v = { s.visit r with
                  fragments := n
                  plate := (match (s.visit r).plate with
                    | none => some ⟨x, c⟩
                    | some k =>
                      if k.text = x then some ⟨x, max k.confidence c⟩
                      else if k.confidence < c then some ⟨x, c⟩
                      else some k)
                  marks := (match (s.visit r).plate with
                    | none => (s.visit r).marks
                    | some k =>
                      if k.text ≠ x ∧ k.confidence = c then { (s.visit r).marks with plateConflict := true }
                      else (s.visit r).marks) } →
            (((s.visit r).plate = none ∨ ∃ k, (s.visit r).plate = some k ∧ k.text ≠ x ∧ k.confidence < c) →
              t = State.settle (u.watchCall r .plate (.text x)))
            ∧ ((∃ k, (s.visit r).plate = some k ∧ (k.text = x ∨ c ≤ k.confidence)) → t = State.settle u)))
    ∧ (∀ (s : State) (st : Nat) (q : List LaneReport) (l : Lane) (r : RecNo) (n : Nat), s.mergesInto l r n → n ≤ 32 →
        (∀ x, s.reads st (.credential x) q l →
          ∃ t, exec .credentialRead s = .next t ∧ t.intake.queue = q ∧ MergeFrame s t l r ∧ MergeLane s t l r
            ∧ (t.visit r).readFields = { (s.visit r).readFields with fragments := n, credential := some x }
            ∧ ∀ u, u = s.takenAs q l r { s.visit r with fragments := n, credential := some x } →
              ((s.visit r).credential ≠ some x → t = State.settle (u.watchCall r .driver (.text x)))
              ∧ ((s.visit r).credential = some x → t = State.settle u))
        ∧ (∀ ref, s.reads st (.booking ref) q l →
          ∃ t, exec .bookingEntry s = .next t ∧ t.intake.queue = q ∧ MergeFrame s t l r ∧ MergeLane s t l r
            ∧ (ref / 8192 = 0 → (t.visit r).readFields = { (s.visit r).readFields with fragments := n }
                ∧ t.mgmt.partCounters = s.mgmt.partCounters.bump .zeroTags)
            ∧ (ref / 8192 ≠ 0 →
                (t.visit r).readFields = { (s.visit r).readFields with fragments := n, reference := some ref })
            ∧ (ref / 8192 = 0 →
                t = State.settle ((s.takenAs q l r { s.visit r with fragments := n }).count .zeroTags))
            ∧ (ref / 8192 ≠ 0 → ∀ u, u = s.takenAs q l r { s.visit r with fragments := n, reference := some ref } →
                ((s.visit r).reference ≠ some ref → t = State.settle (u.watchCall r .booking (.reference ref)))
                ∧ ((s.visit r).reference = some ref → t = State.settle u))))

/-- CONTAINER_READ for a lane's visit within its first 32 reports: the kept container of the position by TABLE 2-5,
CONFLICT for two verified reads that differ, nothing for another position or below the floor (R32, R33, R38), with the
frame. The kept container is written with `verified`, which CheckDigitsVerify gives. A kept container that becomes present
or is replaced, and no other, is passed at once to the watch matcher with its number (R41, TABLES 2-6 and 2-7). -/
def Obligations.ContainerReadsMerge : Prop :=
  ∀ (s : State) (st p : Nat) (x : Text) (z c : Nat) (q : List LaneReport) (l : Lane) (r : RecNo) (n : Nat),
    s.reads st (.container p x z c) q l → s.mergesInto l r n → n ≤ 32 →
    ∃ t, exec .containerRead s = .next t ∧ t.intake.queue = q ∧ MergeFrame s t l r ∧ MergeLane s t l r
      ∧ (c < s.mgmt.params.confidenceFloor →
          (t.visit r).readFields = { (s.visit r).readFields with fragments := n }
          ∧ t.mgmt.partCounters = s.mgmt.partCounters.bump .lowConfidence)
      ∧ (s.mgmt.params.confidenceFloor ≤ c → p ≠ 1 → p ≠ 2 →
          (t.visit r).readFields = { (s.visit r).readFields with fragments := n }
          ∧ t.mgmt.partCounters = s.mgmt.partCounters.bump .badPosition)
      ∧ (let merged : Option Container → Option Container := fun old =>
           match old with
           | none => some ⟨x, verified x, z, c⟩
           | some k =>
             if k.number = x then some { k with confidence := max k.confidence c }
             else if k.verified = true then some k
             else if verified x = true ∨ k.confidence < c then some ⟨x, verified x, z, c⟩
             else some k
         let clashes : Option Container → Prop := fun old =>
           ∃ k, old = some k ∧ k.number ≠ x ∧ k.verified = true ∧ verified x = true
         (s.mgmt.params.confidenceFloor ≤ c → p = 1 →
           (t.visit r).readFields = { (s.visit r).readFields with
             fragments := n, container1 := merged (s.visit r).pos1.container }
           ∧ ((t.visit r).marks.conflict = true ↔
               (s.visit r).marks.conflict = true ∨ clashes (s.visit r).pos1.container))
         ∧ (s.mgmt.params.confidenceFloor ≤ c → p = 2 →
           (t.visit r).readFields = { (s.visit r).readFields with
             fragments := n, container2 := merged (s.visit r).pos2.container }
           ∧ ((t.visit r).marks.conflict = true ↔
               (s.visit r).marks.conflict = true ∨ clashes (s.visit r).pos2.container))
         ∧ (s.mgmt.params.confidenceFloor ≤ c → ∀ (old : Option Container) (v : Visit) (u : State) (m : Marks),
             (p = 1 ∧ old = (s.visit r).pos1.container
                 ∧ v = { s.visit r with
                         fragments := n, marks := m, pos1 := { (s.visit r).pos1 with container := merged old } }
               ∨ p = 2 ∧ old = (s.visit r).pos2.container
                 ∧ v = { s.visit r with
                         fragments := n, marks := m, pos2 := { (s.visit r).pos2 with container := merged old } }) →
             (clashes old ∧ m = { (s.visit r).marks with conflict := true } ∨ ¬ clashes old ∧ m = (s.visit r).marks) →
             u = s.takenAs q l r v →
             let changes : Prop := old = none ∨ ∃ k, old = some k ∧ k.number ≠ x ∧ k.verified = false
               ∧ (verified x = true ∨ k.confidence < c)
             (changes → t = State.settle (u.watchCall r .container (.text x)))
             ∧ (¬ changes → t = State.settle u)))

/-- For a lane's visit within its first 32 reports, with the frame. SEAL_READ: a known text keeps any tamper, a new text
joins a list of fewer than 3, a further one is counted; nothing for another position or below the floor (R32, R33, R39).
DAMAGE_PANEL: the higher severity of the panel is kept, every other panel stays, and another position is counted (R33,
R40). A seal text that joins a list is passed at once to the watch matcher; a tamper flag kept, an excess seal and a
damage panel are not (R41, TABLES 2-6 and 2-7). -/
def Obligations.SealsAndPanelsMerge : Prop :=
  (∀ (s : State) (st p : Nat) (x : Text) (tamper : Bool) (c : Nat) (q : List LaneReport) (l : Lane) (r : RecNo)
      (n : Nat), s.reads st (.seal p x tamper c) q l → s.mergesInto l r n → n ≤ 32 →
      ∃ t, exec .sealRead s = .next t ∧ t.intake.queue = q ∧ MergeFrame s t l r ∧ MergeLane s t l r
        ∧ (c < s.mgmt.params.confidenceFloor →
            (t.visit r).readFields = { (s.visit r).readFields with fragments := n }
            ∧ t.mgmt.partCounters = s.mgmt.partCounters.bump .lowConfidence)
        ∧ (s.mgmt.params.confidenceFloor ≤ c → p ≠ 1 → p ≠ 2 →
            (t.visit r).readFields = { (s.visit r).readFields with fragments := n }
            ∧ t.mgmt.partCounters = s.mgmt.partCounters.bump .badPosition)
        ∧ (let merged : List SealEntry → List SealEntry := fun old =>
             if ∃ e ∈ old, e.text = x then
               old.map (fun e => if e.text = x then ⟨x, e.tamper || tamper⟩ else e)
             else if old.length < 3 then old ++ [⟨x, tamper⟩]
             else old
           let full : List SealEntry → Prop := fun old => (∀ e ∈ old, e.text ≠ x) ∧ 3 ≤ old.length
           (s.mgmt.params.confidenceFloor ≤ c → p = 1 →
             (t.visit r).readFields = { (s.visit r).readFields with
               fragments := n, seals1 := merged (s.visit r).pos1.seals }
             ∧ (full (s.visit r).pos1.seals → t.mgmt.partCounters = s.mgmt.partCounters.bump .excessSeals))
           ∧ (s.mgmt.params.confidenceFloor ≤ c → p = 2 →
             (t.visit r).readFields = { (s.visit r).readFields with
               fragments := n, seals2 := merged (s.visit r).pos2.seals }
             ∧ (full (s.visit r).pos2.seals → t.mgmt.partCounters = s.mgmt.partCounters.bump .excessSeals))
           ∧ (s.mgmt.params.confidenceFloor ≤ c → ∀ (old : List SealEntry) (v : Visit) (u : State),
               (p = 1 ∧ old = (s.visit r).pos1.seals
                   ∧ v = { s.visit r with fragments := n, pos1 := { (s.visit r).pos1 with seals := merged old } }
                 ∨ p = 2 ∧ old = (s.visit r).pos2.seals
                   ∧ v = { s.visit r with fragments := n, pos2 := { (s.visit r).pos2 with seals := merged old } }) →
               u = s.takenAs q l r v →
               ((∀ e ∈ old, e.text ≠ x) → old.length < 3 → t = State.settle (u.watchCall r .seal (.text x)))
               ∧ ((∃ e ∈ old, e.text = x) → t = State.settle u)
               ∧ (full old → t = State.settle (u.count .excessSeals)))))
    ∧ (∀ (s : State) (st p : Nat) (k : Panel) (v : Nat) (q : List LaneReport) (l : Lane) (r : RecNo) (n : Nat),
        s.reads st (.damage p k v) q l → s.mergesInto l r n → n ≤ 32 →
        ∃ t, exec .damagePanel s = .next t ∧ t.intake.queue = q ∧ MergeFrame s t l r ∧ MergeLane s t l r
          ∧ (p ≠ 1 → p ≠ 2 → (t.visit r).readFields = { (s.visit r).readFields with fragments := n }
              ∧ t.mgmt.partCounters = s.mgmt.partCounters.bump .badPosition)
          ∧ (∀ old new : PerPanel (Option Nat),
              (p = 1 ∧ old = (s.visit r).pos1.panels ∧ new = (t.visit r).pos1.panels
                ∨ p = 2 ∧ old = (s.visit r).pos2.panels ∧ new = (t.visit r).pos2.panels) →
              (t.visit r).readFields = { (s.visit r).readFields with
                  fragments := n, panels1 := (t.visit r).pos1.panels, panels2 := (t.visit r).pos2.panels }
              ∧ (p = 1 → (t.visit r).pos2.panels = (s.visit r).pos2.panels)
              ∧ (p = 2 → (t.visit r).pos1.panels = (s.visit r).pos1.panels)
              ∧ (∀ j : Panel, new.get j
                  = if j = k then some (match old.get k with
                      | none => v
                      | some w => if w < v then v else w)
                    else old.get j)
              ∧ t = State.settle (s.takenAs q l r { s.visit r with
                  fragments := n
                  pos1 := { (s.visit r).pos1 with panels := (t.visit r).pos1.panels }
                  pos2 := { (s.visit r).pos2 with panels := (t.visit r).pos2.panels } })))

/-- The verified flag (R37): 4 letters and 7 digits, the eleventh character equal to the weighted sum of the first ten
modulo 11, a remainder of 10 counting as 0; letters count from A = 10 on, leaving out 11, 22 and 33 (TABLE 2-3). -/
def Obligations.CheckDigitsVerify : Prop :=
  (∀ x : Text, verified x = true ↔
      x.length = 11
      ∧ (∀ i, i < 4 → 65 ≤ byteAt x i ∧ byteAt x i ≤ 90) ∧ (∀ i, 4 ≤ i → i < 11 → 48 ≤ byteAt x i ∧ byteAt x i ≤ 57)
      ∧ byteAt x 10 - 48
          = (((List.range 10).map (fun i => charValue (x.getD i 0) * 2 ^ i)).sum % 11) % 10)
    ∧ (List.range 26).map (fun i => charValue (BitVec.ofNat 8 (65 + i)))
        = [10, 12, 13, 14, 15, 16, 17, 18, 19, 20, 21, 23, 24, 25, 26, 27, 28, 29, 30, 31, 32, 34, 35, 36, 37, 38]
    ∧ (List.range 10).map (fun i => charValue (BitVec.ofNat 8 (48 + i))) = [0, 1, 2, 3, 4, 5, 6, 7, 8, 9]

/-- SIGNAL from a lane point: the entries before the first end marker are searched for the code; an ALERT is latched, a
CLOSE closes the lane's visit or is an orphan, an unmatched code is kept or counted (R9, R14, R16, R17, R20). -/
def Obligations.SignalCodesAct : Prop :=
  ∀ (s u : State) (st c : Nat) (q : List LaneReport) (l : Lane) (m : Option CodeMode), s.reads st (.signal c) q l →
    u = State.countLane l .reportsTaken { s with intake := { s.intake with queue := q } } →
    m = ((s.intake.codes.toList.takeWhile (fun e => !e.endMarker)).find? (fun e => e.code == c)).map CodeEntry.mode →
    (m = some .alert →
      exec .signal s = .next (State.settle
        ((if s.intake.latches[l] = none then State.raise .laneAlert else State.count .alertOverwrites)
          { u with intake := { u.intake with latches := s.intake.latches.set l.val (some ⟨c, s.mgmt.clock⟩) } })))
    ∧ ((s.lane l).openVisit = none → m ≠ some .alert →
      exec .signal s = .next (State.settle (u.count (if m = some .close then .orphanCloses else .unkeptCodes))))
    ∧ (∀ r n v, (s.lane l).openVisit = some r → n = min ((s.visit r).fragments + 1) 65535 →
      v = { s.visit r with
            fragments := n
            discarded := if 33 ≤ n then min ((s.visit r).discarded + 1) 65535 else (s.visit r).discarded
            marks := if 33 ≤ n then { (s.visit r).marks with overflow := true } else (s.visit r).marks
            codes := if n ≤ 32 ∧ (s.visit r).codes.length < 4 then (s.visit r).codes ++ [c]
                     else (s.visit r).codes } →
      (m = some .close →
        exec .signal s = .next (State.settle
          { u with
            asm := { s.asm with
              visits := s.asm.visits.set r.val { v with
                state := .checking, closedAt := some s.mgmt.clock, closeReason := some .code }
              lanes := s.asm.lanes.set l.val { s.lane l with openVisit := none, idleCountdown := none } }
            check := { s.check with queue := s.check.queue ++ [r] }
            engine := { s.engine with
              departures := s.engine.departures.set l.val (s.departures l ++ [⟨r, false⟩]) } }))
      ∧ (m = none →
        exec .signal s = .next (State.settle
          ((if n ≤ 32 ∧ (s.visit r).codes.length < 4 then id else State.count .unkeptCodes)
            { u with
              asm := { s.asm with
                visits := s.asm.visits.set r.val v
                lanes := s.asm.lanes.set l.val
                  { s.lane l with idleCountdown := some s.mgmt.params.idleLimit } } }))))

/-! ### Displays, barriers and urgents -/

/-- SHOWN from a display station: stale with nothing in display or another sequence; else the urgent or the head
completes, and what comes next is sent or handed on (R152, R154, R156, R163, R141). The last clause says it for every
point: further descriptors, a READY urgent and pending directions behind the message, a direction that is no longer its
visit's latest, and points without a display station (CompletesAt; R150, R151, R154). -/
def Obligations.ShownCompletesTheMessage : Prop :=
  ∀ (s u : State) (st x : Nat) (q : List LaneReport) (e : Station) (p : Point), s.intake.queue = ⟨st, .shown x⟩ :: q →
    s.stationOf st = some e → e.role = .display → e.point = p → u = { s with intake := { s.intake with queue := q } } →
    (((s.point p).displayed? = none ∨ (s.point p).displaySequence ≠ some x) →
      exec .shown s = .next (State.settle (u.count .staleShown)))
    ∧ (∀ d, (s.point p).urgent = .inDisplay d → (s.point p).displaySequence = some x →
      (∀ y ∈ (s.point p).queue, y.inDisplay = false) →
      ((s.point p).follow = none → (s.point p).queue = [] →
        exec .shown s = .next (State.settle
          { u with engine := { s.engine with
              points := s.engine.points.set p.val { s.point p with
                urgent := .empty, displaySequence := none, resendCountdown := none } } }))
      ∧ (∀ f dest, (s.point p).follow = some f → s.displayStation p = some dest →
        exec .shown s = .next (State.settle (State.placeLane ⟨true, .direction dest p f (s.point p).sequence⟩
          { u with engine := { s.engine with
              points := s.engine.points.set p.val { s.point p with
                urgent := .inDisplay f, follow := none, sequence := ((s.point p).sequence + 1) % 256
                displaySequence := some (s.point p).sequence, resendCount := 0
                resendCountdown := some s.mgmt.params.resendInterval } } })))
      ∧ (∀ h more dest, (s.point p).follow = none → (s.point p).queue = h :: more → s.displayStation p = some dest →
        exec .shown s = .next (State.settle
          (State.placeLane ⟨false, .direction dest p h.direction (s.point p).sequence⟩
            { u with engine := { s.engine with
                points := s.engine.points.set p.val { s.point p with
                  urgent := .empty, queue := ⟨h.direction, true⟩ :: more
                  sequence := ((s.point p).sequence + 1) % 256, displaySequence := some (s.point p).sequence
                  resendCount := 0, resendCountdown := some s.mgmt.params.resendInterval } } }))))
    ∧ (∀ d v r, (s.point p).urgent = .empty → (s.point p).queue = [⟨d, true⟩] →
      (s.point p).displaySequence = some x → s.engine.pendings = [] → d.visit = some v → s.findVisit v = some r →
      ∀ points, points = s.engine.points.set p.val { s.point p with
          queue := [], displaySequence := none, resendCountdown := none } →
      (∀ l, pointLane? p = some l →
        exec .shown s = .next (State.settle (State.barrierTest l
          { u with engine := { s.engine with
              points := points
              departures := s.engine.departures.set l.val
                ((s.departures l).map (fun y => if y.visit = r then ⟨y.visit, true⟩ else y)) } })))
      ∧ (pointLane? p = none → (s.visit r).state = .releasing →
        ((∀ y ∈ s.pacer.staged, y.visit ≠ v) →
          exec .shown s = .next (State.settle (State.enterReporting r
            { u with engine := { s.engine with points := points } })))
        ∧ (∀ a y b, s.pacer.staged = a ++ y :: b → y.visit = v → (∀ z ∈ a ++ b, z.visit ≠ v) →
          (y.location = .bay →
            exec .shown s = .next (State.settle (State.enterReporting r
              { u with
                engine := { s.engine with points := points }
                pacer := { s.pacer with staged := a ++ b } })))
          ∧ (∀ w, y.location = .row w → s.pacer.laneWait = [] →
            exec .shown s = .next (State.settle (State.enterReporting r
              { u with
                engine := { s.engine with points := points }
                pacer := { s.pacer with staged := a ++ b, rows := s.pacer.rows.set w.val .free } }))))))
    ∧ (∀ y, (s.point p).displayed? = some y → (s.point p).displaySequence = some x →
      ∃ t, exec .shown s = .next (State.settle t) ∧ CompletesAt u t p false)

/-- The barrier test: the barrier rises for a DIRECTING head whose lane direction is done, toward the lane's barrier station
or with BARRIER_FAULT, and otherwise nothing changes (R159). A visit that enters REPORTING: its report is placed and its
record freed when the queue has room and no visit waits, else it joins the report-wait list (R174, R1). That the freed
record, FREE with number 0, keeps its other fields is the model's choice (log entry 19). -/
def Obligations.BarriersRiseAndReportsArePlaced : Prop :=
  (∀ (s : State) (l : Lane),
      (∀ r q, (s.barrier l).raising = false → s.departures l = ⟨r, true⟩ :: q → (s.visit r).state = .directing →
        s.barrierTest l =
          (match s.barrierStation l with
           | some st => State.placeLane ⟨false, .barrierRaise st l (s.visit r).number⟩
           | none => State.raise .barrierFault)
            { s with
              engine := { s.engine with
                barriers := s.engine.barriers.set l.val ⟨true, some s.mgmt.params.barrierLimit⟩ }
              asm := { s.asm with visits := s.asm.visits.set r.val { s.visit r with state := .atBarrier } } })
      ∧ (((s.barrier l).raising = true ∨ ∀ h, (s.departures l).head? = some h →
            h.done = false ∨ (s.visit h.visit).state ≠ .directing) →
        s.barrierTest l = s))
    ∧ (∀ (s : State) (r : RecNo) (v : Visit), v = { s.visit r with state := .reporting } →
        (s.mgmt.reportQueue.length < 16 → s.mgmt.reportWait = [] →
          s.enterReporting r =
            (if 11 ≤ s.mgmt.reportQueue.length then State.raise .reportQueueHigh else id)
              { s with
                mgmt := { s.mgmt with
                  reportQueue := s.mgmt.reportQueue ++ [⟨s.mgmt.reportNumber, s.mgmt.clock, v⟩]
                  reportNumber := (s.mgmt.reportNumber + 1) % 65536 }
                asm := { s.asm with
                  visits := s.asm.visits.set r.val { v with state := .free, number := 0 }
                  freeList := s.asm.freeList ++ [r] } })
        ∧ ((16 ≤ s.mgmt.reportQueue.length ∨ s.mgmt.reportWait ≠ []) →
          s.enterReporting r =
            { s with
              mgmt := { s.mgmt with reportWait := s.mgmt.reportWait ++ [r] }
              asm := { s.asm with visits := s.asm.visits.set r.val v } }))

/-- PASSED from a barrier station of a lane, and BARRIER_CLEAR: with the barrier RAISING it falls, the head leaves the
departure queue and moves on by TABLE 9-3, and the test is made for the new head; with it DOWN, PASSED is counted and
BARRIER_CLEAR refused (R160, R162). -/
def Obligations.PassedTrucksMoveOn : Prop :=
  (∀ (s u : State) (st : Nat) (q : List LaneReport) (e : Station) (l : Lane), s.intake.queue = ⟨st, .passed⟩ :: q →
      s.stationOf st = some e → e.role = .barrier → pointLane? e.point = some l →
      u = { s with intake := { s.intake with queue := q } } →
      ((s.barrier l).raising = false → exec .passed s = .next (State.settle (u.count .passedWhileDown)))
      ∧ (∀ r x rest, (s.barrier l).raising = true → s.departures l = ⟨r, x⟩ :: rest →
        ∃ t, PassedBy u l r rest t ∧ exec .passed s = .next (State.settle (t.barrierTest l))))
    ∧ (∀ (s u : State) (tag n : Nat) (rest : List Request), s.takes tag (.barrierClear n) rest →
      u = { s with mgmt := { s.mgmt with queue := rest } } →
      ((n = 0 ∨ 12 < n) →
        exec .barrierClear s = .next (State.settle (State.answeredWith rest ⟨tag, 29, .badIndex, .none⟩ s)))
      ∧ (∀ l : Lane, n = l.val + 1 → (s.barrier l).raising = false →
        exec .barrierClear s = .next (State.settle (State.answeredWith rest ⟨tag, 29, .wrongState, .none⟩ s)))
      ∧ (∀ (l : Lane) r x more, n = l.val + 1 → (s.barrier l).raising = true → s.departures l = ⟨r, x⟩ :: more →
        ∃ t, PassedBy u l r more t
          ∧ exec .barrierClear s = .next (State.settle
              (State.answeredWith rest ⟨tag, 29, .ok, .visitNumber (s.visit r).number⟩ (t.barrierTest l)))))

/-- An urgent placed at a point: into the EMPTY slot, over a READY one, or behind one in display (R155); in the EMPTY slot of
an idle point it is sent at once, or retired when the point has no display station (R151). SEND_URGENT: its refusals, and
the placing of its direction with the answer saying where it went (R157). -/
def Obligations.UrgentsTakeTheSlot : Prop :=
  (∀ (s : State) (p : Point) (d : Direction),
      (∀ f, (s.point p).urgent = .ready f →
        s.placeUrgent p d = (State.count .urgentReplacements { s with engine := { s.engine with
          points := s.engine.points.set p.val { s.point p with urgent := .ready d } } }, .replaced))
      ∧ (∀ f, (s.point p).urgent = .inDisplay f →
        s.placeUrgent p d =
          ((if (s.point p).follow = none then id else State.count .urgentReplacements)
            { s with engine := { s.engine with
              points := s.engine.points.set p.val { s.point p with follow := some d } } }, .toFollow))
      ∧ ((s.point p).urgent = .empty →
        (∀ x, (s.point p).displayed? = some x →
          s.placeUrgent p d = ({ s with engine := { s.engine with
            points := s.engine.points.set p.val { s.point p with urgent := .ready d } } }, .becameReady))
        ∧ ((s.point p).displayed? = none →
          (∀ st, s.displayStation p = some st →
            s.placeUrgent p d = (State.placeLane ⟨true, .direction st p d (s.point p).sequence⟩
              { s with engine := { s.engine with
                  points := s.engine.points.set p.val { s.point p with
                    urgent := .inDisplay d, sequence := ((s.point p).sequence + 1) % 256
                    displaySequence := some (s.point p).sequence, resendCount := 0
                    resendCountdown := some s.mgmt.params.resendInterval } } }, .becameReady))
          ∧ (s.displayStation p = none → (s.point p).follow = none → (s.point p).queue = [] →
            s.placeUrgent p d = (s.unconfirmed d, .becameReady)))))
    ∧ (∀ (s u : State) (tag n k m : Nat) (v b r : Option Nat) (rest : List Request),
        s.takes tag (.sendUrgent n k m v b r) rest → u = { s with mgmt := { s.mgmt with queue := rest } } →
        ((n = 0 ∨ 14 < n) →
          exec .sendUrgent s = .next (State.settle (State.answeredWith rest ⟨tag, 28, .badIndex, .none⟩ s)))
        ∧ (1 ≤ n → n ≤ 14 →
            (k = 0 ∨ 9 < k ∨ 255 < m ∨ (∃ x, v = some x ∧ (x = 0 ∨ 65535 < x)) ∨ (∃ x, b = some x ∧ (x = 0 ∨ 32 < x))
              ∨ (∃ x, r = some x ∧ (x = 0 ∨ 24 < x))) →
          exec .sendUrgent s = .next (State.settle (State.answeredWith rest ⟨tag, 28, .badRecord, .none⟩ s)))
        ∧ (∀ (p : Point) (d : Direction), n = p.val + 1 → k = d.kind.wire → m = d.template → m ≤ 255 → v = d.visit →
            (∀ x, v = some x → 1 ≤ x ∧ x ≤ 65535) → b = d.block.map numberOf → r = d.row.map numberOf →
          exec .sendUrgent s = .next (State.settle (State.answeredWith rest
            ⟨tag, 28, .ok, .urgent (u.placeUrgent p d).2⟩ (u.placeUrgent p d).1))))

/-- A direction issued for a visit at its lane point or at point 13 or 14: sent at once at an idle point, queued behind a
message in display, pending behind a full queue, in place of an earlier one of the visit that is still QUEUED or pending,
and retired at once with what a completion hands on where there is no display station; at a lane point the visit's done
flag is cleared each time (R149 to R151, R154, R158, R163). The first clause says it of every state. -/
def Obligations.DirectionsTakeTheirPlace : Prop :=
  ∀ (s t : State) (v : Nat) (d : Direction) (p : Point) (left : List PendingDirection)
    (gone : Vector (List Departure) 12),
    ((∃ l, p = lanePoint l ∧ t = s.issueLane v l d) ∨ pointLane? p = none ∧ t = s.issueBoard v p d) →
    left = pendingsWithout s v p → gone = flagCleared s v p →
    (∃ u, DirectionEntered s u v p d ∧ PointServed p u t)
    ∧ ((s.point p).queue = [] → (s.point p).urgent = .empty →
      (∀ st, s.displayStation p = some st →
        t = State.placeLane ⟨false, .direction st p d (s.point p).sequence⟩
          { s with engine := { s.engine with
              points := s.engine.points.set p.val { s.point p with
                queue := [⟨d, true⟩], sequence := ((s.point p).sequence + 1) % 256
                displaySequence := some (s.point p).sequence, resendCount := 0
                resendCountdown := some s.mgmt.params.resendInterval }
              pendings := left, departures := gone } })
      ∧ (s.displayStation p = none → (∀ y ∈ left, y.point ≠ p) →
        HandedOn (State.unconfirmed d { s with engine := { s.engine with pendings := left, departures := gone } }) t p d))
    ∧ ((s.point p).displayed? ≠ none → (∀ y ∈ (s.point p).queue, y.direction.visit = some v → y.inDisplay = true) →
      ((s.point p).queue.length < 6 →
        t = { s with engine := { s.engine with
            points := s.engine.points.set p.val { s.point p with queue := (s.point p).queue ++ [⟨d, false⟩] }
            pendings := left, departures := gone } })
      ∧ (6 ≤ (s.point p).queue.length →
        t = { s with engine := { s.engine with
            pendings := s.engine.pendings.filter (fun y => y.visit ≠ v) ++ [⟨v, p, d⟩], departures := gone } }))
    ∧ (∀ a old b, (s.point p).displayed? ≠ none → (s.point p).queue = a ++ old :: b → old.inDisplay = false →
      old.direction.visit = some v → (∀ y ∈ a ++ b, y.direction.visit ≠ some v) → (a ++ b).length < 6 →
      ((∀ y ∈ left, y.point ≠ p) →
        t = { s with engine := { s.engine with
            points := s.engine.points.set p.val { s.point p with queue := a ++ b ++ [⟨d, false⟩] }
            pendings := left, departures := gone } })
      ∧ (∀ x y z, left = x ++ y :: z → y.point = p → (∀ k ∈ x, k.point ≠ p) →
        ((a ++ b).length < 5 →
          t = { s with engine := { s.engine with
              points := s.engine.points.set p.val { s.point p with
                queue := a ++ b ++ [⟨y.direction, false⟩, ⟨d, false⟩] }
              pendings := x ++ z, departures := gone } })
        ∧ ((a ++ b).length = 5 →
          t = { s with engine := { s.engine with
              points := s.engine.points.set p.val { s.point p with queue := a ++ b ++ [⟨y.direction, false⟩] }
              pendings := (x ++ z).filter (fun k => k.visit ≠ v) ++ [⟨v, p, d⟩], departures := gone } })))


/-- When a key equals a value (R98), which values of a visit a key kind compares (R96), and when an entry hits (R99). -/
def Obligations.WatchKeysCompare : Prop :=
  (∀ (k : Text) (n : Nat) (x : Text),
      (WatchKey.text k n).equals (.text x) = true ↔
        if n = 11 then x = k
        else min n k.length ≤ x.length ∧ ∀ i, i < min n k.length → x[i]? = k[i]?)
    ∧ (∀ k m x : Nat, (WatchKey.reference k m).equals (.reference x) = true ↔
        ∀ i, m ≤ i → k.testBit i = x.testBit i)
    ∧ (∀ (v : Visit) (x : WatchValue),
        (x ∈ v.watchValues .plate ↔ ∃ p, v.plate = some p ∧ x = .text p.text)
        ∧ (x ∈ v.watchValues .driver ↔ ∃ t, v.credential = some t ∧ x = .text t)
        ∧ (x ∈ v.watchValues .booking ↔ ∃ n, v.reference = some n ∧ x = .reference n)
        ∧ (x ∈ v.watchValues .container ↔
            ∃ c, (v.pos1.container = some c ∨ v.pos2.container = some c) ∧ x = .text c.number)
        ∧ (x ∈ v.watchValues .seal ↔ ∃ e, (e ∈ v.pos1.seals ∨ e ∈ v.pos2.seals) ∧ x = .text e.text))
    ∧ (∀ (e : WatchEntry) (i : Nat) (q : List WatchValue) (v : Visit), e.hits i q v = true ↔
        e.valid = true ∧ (∃ x ∈ q, e.key.equals x = true) ∧ (∀ p, e.predecessor = some p → p ∈ v.hitSet)
          ∧ i ∉ v.hitSet)

/-- Both matchings end with no entry left that hits; what they add to the hit set are entries that compare equal, each
with the work of a hit: the strongest action rises to it, and an arrival-time STOP_NOW sets STOP_ISSUED (R100 to R103).
The hits are made in passes in ascending entry number; the hit list takes the first four in the order they are made, and
the hit set and the strongest action take all (HitsInPasses, HitsRecorded). -/
def Obligations.WatchMatchingEnds : Prop :=
  (∀ (s t : State) (r : RecNo) (k : KeyKind) (x : WatchValue), t = s.watchCall r k x →
      (∀ i : Fin 64, (s.watch[i]).kind = k → (s.watch[i]).timing = .onArrival →
        (s.watch[i]).hits i.val [x] (t.visit r) = false)
      ∧ (∀ j ∈ (s.visit r).hitSet, j ∈ (t.visit r).hitSet)
      ∧ (∀ j ∈ (t.visit r).hitSet, j ∈ (s.visit r).hitSet ∨ ∃ i : Fin 64, i.val = j ∧ (s.watch[i]).valid = true
          ∧ (s.watch[i]).kind = k ∧ (s.watch[i]).timing = .onArrival ∧ (s.watch[i]).key.equals x = true
          ∧ (∃ a, (t.visit r).strongest = some a ∧ (s.watch[i]).action.rank ≤ a.rank)
          ∧ ((s.watch[i]).action = .stopNow → (t.visit r).marks.stopIssued = true))
      ∧ (∃ q : List (Fin 64),
          HitsInPasses (fun i => (s.watch[i]).valid = true ∧ (s.watch[i]).kind = k
              ∧ (s.watch[i]).timing = .onArrival ∧ (s.watch[i]).key.equals x = true)
            (fun i => (s.watch[i]).predecessor) (s.visit r).hitSet q
          ∧ HitsRecorded s.watch q (s.visit r) (t.visit r)
          ∧ (t.visit r).marks.stopIssued
              = ((s.visit r).marks.stopIssued || q.any (fun i => (s.watch[i]).action == .stopNow)))
      ∧ (∀ i : RecNo, i ≠ r → (t.visit i).hitSet = (s.visit i).hitSet ∧ (t.visit i).hitList = (s.visit i).hitList
          ∧ (t.visit i).strongest = (s.visit i).strongest))
    ∧ (∀ (w : Vector WatchEntry 64) (u v : Visit), v = closePasses w 65 u →
      (∀ i : Fin 64, (w[i]).timing = .atClose → (w[i]).hits i.val (v.watchValues (w[i]).kind) v = false)
      ∧ (∀ j ∈ u.hitSet, j ∈ v.hitSet) ∧ v.marks = u.marks ∧ v.readFields = u.readFields
      ∧ (∀ j ∈ v.hitSet, j ∈ u.hitSet ∨ ∃ i : Fin 64, i.val = j ∧ (w[i]).valid = true ∧ (w[i]).timing = .atClose
          ∧ (∃ y ∈ u.watchValues (w[i]).kind, (w[i]).key.equals y = true)
          ∧ ∃ a, v.strongest = some a ∧ (w[i]).action.rank ≤ a.rank)
      ∧ ∃ q : List (Fin 64),
          HitsInPasses (fun i => (w[i]).valid = true ∧ (w[i]).timing = .atClose
              ∧ ∃ y ∈ u.watchValues (w[i]).kind, (w[i]).key.equals y = true)
            (fun i => (w[i]).predecessor) u.hitSet q
          ∧ HitsRecorded w q u v)

/-! ### Checks -/

/-- CHECK_START: the idle check unit takes the head of the check queue; a reference asks for its booking, else the first
position with a container for its index lookup, and a visit with neither is judged WALK_IN_REFUSED at once (R75 to R79,
R90). TABLE_STORE_GRANT: a free store is granted to the check unit's waiting access before the management unit's (R49).
Three points are the model's choices: that an access asked for waits for TABLE_STORE_GRANT (log entry 6), that a check
starts and asks for its access also while an access that a warm reset abandoned still holds the store (log entry 24), and
that TABLE_STORE_GRANT changes nothing at a store that is held or that no access waits for (log entry 3). -/
def Obligations.ChecksStartAndAccessesAreGranted : Prop :=
  (∀ (s u : State) (r : RecNo) (rest : List RecNo), s.check.context = none → s.check.queue = r :: rest →
      u = { s with check := { s.check with queue := rest } } →
      (∀ ref, (s.visit r).reference = some ref →
        exec .checkStart s = .next (State.settle
          { u with
            check := ⟨rest, some { visit := r }⟩
            store := { s.store with checkWaiting := some (.lookupReference ref) } }))
      ∧ (∀ k, (s.visit r).reference = none → (s.visit r).pos1.container = some k →
        exec .checkStart s = .next (State.settle
          { u with
            check := ⟨rest, some { visit := r, searching := some .one }⟩
            store := { s.store with checkWaiting := some (.lookupContainer k.number) } }))
      ∧ (∀ k, (s.visit r).reference = none → (s.visit r).pos1.container = none → (s.visit r).pos2.container = some k →
        exec .checkStart s = .next (State.settle
          { u with
            check := ⟨rest, some { visit := r, searching := some .two }⟩
            store := { s.store with checkWaiting := some (.lookupContainer k.number) } }))
      ∧ ((s.visit r).reference = none → (s.visit r).pos1.container = none → (s.visit r).pos2.container = none →
        ∃ t o, exec .checkStart s = .next t ∧ t.check = ⟨rest, none⟩ ∧ t.store = s.store ∧ t.ring = s.ring
          ∧ o = (closePasses s.watch 65 { s.visit r with verdict := some .walkInRefused }).decidedOutcome false
          ∧ (t.visit r).verdict = some .walkInRefused ∧ (t.visit r).outcome = some o
          ∧ (t.visit r).dispatch = none ∧ (t.visit r).alternate = none
          ∧ (t.mgmt.laneCounters[(s.visit r).lane]).get o.counter
              = satInc max32 ((s.mgmt.laneCounters[(s.visit r).lane]).get o.counter)))
    ∧ (∀ s : State,
        (s.store.granted ≠ none → exec .tableStoreGrant s = .next s.settle)
        ∧ (s.store.granted = none →
          (∀ a, s.store.checkWaiting = some a →
            exec .tableStoreGrant s = .next (State.settle
              { s with store := { s.store with granted := some (.check a false), checkWaiting := none } }))
          ∧ (∀ m, s.store.checkWaiting = none → s.store.mgmtWaiting = some m →
            exec .tableStoreGrant s = .next (State.settle
              { s with store := { s.store with granted := some (.mgmt m), mgmtWaiting := none } }))
          ∧ (s.store.checkWaiting = none → s.store.mgmtWaiting = none → exec .tableStoreGrant s = .next s.settle)))

/-- BOOKING_LOOKUP: a record below the capacity that is not FREE, with the reference's tag or on the index path with any, is
held and judged; another result goes on to the next candidate, to position 2, or to walk-in resolution (R50, R76 to R81,
R85). INDEX_LOOKUP: the candidates of the container number take the place of the context's, and the lowest is looked up,
else position 2 is searched, else the visit goes to walk-in resolution (R50, R78). An access that a warm reset abandoned
only frees the store (R60). The candidates of a number are the booking indexes of the ways of its key's bucket that hold
the key, in ascending order without repeats, none without a key (R47, R50). That an access asked for stands waiting for
TABLE_STORE_GRANT, even at a free store, is the model's choice (log entry 6). -/
def Obligations.LookupsDecideTheBooking : Prop :=
  (∀ (s : State) (c : CheckContext) (i : Nat) (tag : Option Nat) (found : Option Booking),
      found = (if i < bookingCapacity s.store.partition then
          (readCell i s.store.bookings).filter (fun b => decide (tag = none ∨ tag = some b.tag)) else none) →
      (∀ x, s.store.granted = some (.check x true) → (∃ ref, x = .lookupReference ref) ∨ (∃ j, x = .lookupIndex j) →
        exec .bookingLookup s = .next (State.settle s.releaseStore))
      ∧ (s.check.context = some c →
        ((tag = none ∧ s.store.granted = some (.check (.lookupIndex i) false))
          ∨ ∃ ref, s.store.granted = some (.check (.lookupReference ref) false) ∧ i = ref % 8192
            ∧ tag = some (ref / 8192)) →
        (∀ b, found = some b →
          ∃ t, exec .bookingLookup s = .next t ∧ JudgedHolding s t c ⟨i, b.tag, b⟩)
        ∧ (found = none →
          ((∃ ref, s.store.granted = some (.check (.lookupReference ref) false)) →
            ∃ t, exec .bookingLookup s = .next t ∧ (c.held = none → JudgedWalkIn s t c))
          ∧ (s.store.granted = some (.check (.lookupIndex i) false) →
            ∃ t, exec .bookingLookup s = .next t ∧ SearchGoesOn s t c))))
    ∧ (∀ (s : State) (c : CheckContext) (n : Text),
        (s.store.granted = some (.check (.lookupContainer n) true) →
          exec .indexLookup s = .next (State.settle s.releaseStore))
        ∧ (s.store.granted = some (.check (.lookupContainer n) false) → s.check.context = some c →
          ∃ t, exec .indexLookup s = .next t ∧ SearchGoesOn s t { c with candidates := s.store.lookupContainer n }))
    ∧ (∀ (t : TableStore) (n : Text),
        (t.lookupContainer n).Pairwise (· < ·)
        ∧ (containerKey n = none → t.lookupContainer n = [])
        ∧ (∀ k, containerKey n = some k → ∀ i, i ∈ t.lookupContainer n ↔
            ∃ w, w < 4 ∧ readCell (4 * (k % bucketCount t.partition) + w) t.index = some ⟨k, i⟩)
        ∧ (t.Sound → ∀ i ∈ t.lookupContainer n, ∃ b, readCell i t.bookings = some b
            ∧ ∃ l ∈ b.lines, l.dropKey = containerKey n))

/-- CONFIRM: an OPEN record of the tag becomes ARRIVED with its period's arrived count; CANCELLED and ARRIVED ones
rewrite the verdict and the outcome is decided again by the precedence (R86, R104; that this goes for LINE_HOLD as its
only cause too is the model's reading, log entry 23); a confirm that a warm reset abandoned only frees the store there
(R60); and a FREE or other one gives the booking up:
walk-in resolution, the seals unpaired, the outcome decided again, and with WALK_IN and ADMIT or INSPECTION a walk-in
claim, which takes one of the current window's places (R51, R85, R87, R88). -/
def Obligations.ConfirmsCommit : Prop :=
  ∀ (s : State) (c : CheckContext) (i tag : Nat) (found : Option Booking),
    found = (if i < bookingCapacity s.store.partition then
        (readCell i s.store.bookings).filter (fun b => b.tag == tag) else none) →
    (∀ b u, found = some b → b.state = .opened →
      u = { s with
            store := TableStore.release
              { s.store with bookings := writeCell i { b with state := .arrived } s.store.bookings }
            ring := s.ring.modWindow b.period (fun w => { w with arrived := min (w.arrived + 1) 65535 }) } →
      (s.store.granted = some (.check (.confirm i tag) true) → exec .confirm s = .next (State.settle u))
      ∧ (s.store.granted = some (.check (.confirm i tag) false) → s.check.context = some c →
        exec .confirm s = .next (State.settle (u.handOff c))))
    ∧ (∀ b v x, found = some b → (b.state = .cancelled ∧ x = .cancelled ∨ b.state = .arrived ∧ x = .alreadyUsed) →
      s.store.granted = some (.check (.confirm i tag) false) → s.check.context = some c →
      v = { s.visit c.visit with verdict := some x } →
      exec .confirm s = .next (State.settle (State.handOff c (State.count .redecisions
        { s.releaseStore with asm := { s.asm with
          visits := s.asm.visits.set c.visit.val { v with outcome := some (v.decidedOutcome c.namesPlate) } } }))))
    ∧ ((∀ b, found = some b → b.state ≠ .opened) → s.store.granted = some (.check (.confirm i tag) true) →
      exec .confirm s = .next (State.settle { s with store := s.store.release }))
    ∧ (found = none → s.store.granted = some (.check (.confirm i tag) false) → s.check.context = some c →
      ∃ t, exec .confirm s = .next t ∧ (t.visit c.visit).bookingIndex = none
        ∧ (t.visit c.visit).verdict
            = some (walkInResolution (s.visit c.visit) s.mgmt.params.walkInBlock (s.ring.reading none)).1
        ∧ (∀ p, ((s.visit c.visit).at p).container ≠ none → ((t.visit c.visit).at p).sealVerdict
            = some (if ((s.visit c.visit).at p).seals.any SealEntry.tamper then .tamper else .unchecked))
        ∧ t.mgmt.partCounters.redecisions = satInc max32 s.mgmt.partCounters.redecisions
        ∧ t.check.context = none ∧ t.store.bookings = s.store.bookings)
    ∧ (∀ (x : BookingVerdict × Option BlockNo) (v : Visit) (o : VisitOutcome), found = none →
      s.store.granted = some (.check (.confirm i tag) false) → s.check.context = some c →
      x = walkInResolution (s.visit c.visit) s.mgmt.params.walkInBlock (s.ring.reading none) →
      v = { s.visit c.visit with
            bookingIndex := none
            verdict := some x.1
            pos1 := (s.visit c.visit).pos1.sealChecked none
            pos2 := (s.visit c.visit).pos2.sealChecked none } →
      o = v.decidedOutcome false →
      exec .confirm s = .next (State.settle (State.handOff { c with held := none, walkInBlock := x.2 }
        (State.count .redecisions { s.releaseStore with
          asm := { s.asm with visits := s.asm.visits.set c.visit.val { v with outcome := some o } }
          ring := (if x.1 = .walkIn ∧ (o = .admitted ∨ o = .inspection) then
              s.ring.modWindow s.ring.arrival (fun y => { y with used := y.used + 1 }) else s.ring) }))))

/-- Stage HAND_OFF: the blocks by R89, the outcome counted (R108), the context discarded (R90), and the visit handed to
the pacer or, DIRECTING, to the direction engine with the direction of TABLE 6-11 (R106, R107). -/
def Obligations.HandOffFollowsTheOutcome : Prop :=
  ∀ (s u : State) (c : CheckContext) (o : VisitOutcome) (b : Option BlockNo × Option BlockNo) (v : Visit),
    (s.visit c.visit).outcome = some o →
    ((∃ h l, c.held = some h ∧ b = (some l.primary, l.alternate)
        ∧ (h.snapshot.line1.direction = .drop ∧ l = h.snapshot.line1
          ∨ h.snapshot.line1.direction ≠ .drop ∧ (∃ m, h.snapshot.line2 = some m ∧ m.direction = .drop ∧ l = m)
          ∨ h.snapshot.line1.direction ≠ .drop ∧ (∀ m, h.snapshot.line2 = some m → m.direction ≠ .drop)
            ∧ l = h.snapshot.line1))
      ∨ (c.held = none ∧ (s.visit c.visit).verdict = some .walkIn ∧ b = (c.walkInBlock, none))
      ∨ (c.held = none ∧ (s.visit c.visit).verdict ≠ some .walkIn ∧ b = (none, none))) →
    v = { s.visit c.visit with dispatch := b.1, alternate := b.2 } →
    u = State.countLane v.lane (match o with
        | .admitted => .admitted
        | .turnedAway => .turnedAway
        | .trouble => .trouble
        | .inspection => .inspection)
      { s with
        asm := { s.asm with visits := s.asm.visits.set c.visit.val v }
        check := { s.check with context := none } } →
    (o = .admitted → s.handOff c = (u.dispatchRequest c.visit (.lane v.lane)).1)
    ∧ (∀ k, (o = .trouble ∧ k = .troubleDesk ∨ o = .turnedAway ∧ k = .turnBack ∨ o = .inspection ∧ k = .inspectionBay) →
      s.handOff c = State.issueLane v.number v.lane { kind := k, visit := some v.number }
        { u with asm := { u.asm with visits := s.asm.visits.set c.visit.val { v with state := .directing } } })

/-- The booking verdict of a held booking: the first row of TABLE 5-5 that holds, with the window judgement of TABLE 5-3, the
plate test of R82 and the hold test of R84 (R80 to R84). The pairing: line 1 first, a DROP line with the lowest position
not yet paired whose kept number it carries; and the container test passes when every DROP line and every position with
a container is paired (R83). Walk-in resolution: WALK_IN with a container, a walk-in block, no gap and walk-in room in
the current slot, else WALK_IN_REFUSED; with WALK_IN the block is recorded (R79, R72). -/
def Obligations.VerdictIsTheFirstRowThatHolds : Prop :=
  (∀ (b : Booking) (v : Visit) (w : Reading) (p : Option LineNo × Option LineNo) (x : BookingVerdict),
      x = bookingVerdict b v w p →
      let expired : Prop := w.slot = none ∨ ∃ q, w.slot = some q ∧ b.period < w.arrival - q.late
      let tooEarly : Prop := ∃ q, w.slot = some q ∧ w.arrival + q.early < b.period
      let otherPlate : Prop := ∃ t q, b.plate = some t ∧ v.plate = some q ∧ q.text ≠ t
      let held : Prop := b.line1.hold = true ∨ ∃ l, b.line2 = some l ∧ l.hold = true
      (b.state = .cancelled → x = .cancelled)
      ∧ (b.state = .arrived → x = .alreadyUsed)
      ∧ (b.state = .opened →
        (expired → x = .expired)
        ∧ (¬ expired → tooEarly → x = .tooEarly)
        ∧ (¬ expired → ¬ tooEarly →
          (otherPlate → x = .plateMismatch)
          ∧ (¬ otherPlate → containerTest b v p = false → x = .containerMismatch)
          ∧ (¬ otherPlate → containerTest b v p = true → held → x = .lineHold)
          ∧ (¬ otherPlate → containerTest b v p = true → ¬ held →
            (w.arrival < b.period → x = .early) ∧ (b.period = w.arrival → x = .onTime)
              ∧ (b.period < w.arrival → x = .late)))))
    ∧ (∀ (b : Booking) (v : Visit),
        let carries : BookingLine → Option Container → Prop := fun l c =>
          l.direction = .drop ∧ ∃ k, c = some k ∧ l.container = some k.number
        let drop2 : Option Container → Prop := fun c => ∃ l, b.line2 = some l ∧ carries l c
        let p := pairing b v
        (p.1 = some .one ↔ carries b.line1 v.pos1.container)
        ∧ (p.2 = some .one ↔ carries b.line1 v.pos2.container ∧ ¬ carries b.line1 v.pos1.container)
        ∧ (p.1 = some .two ↔ drop2 v.pos1.container ∧ p.1 ≠ some .one)
        ∧ (p.2 = some .two ↔ drop2 v.pos2.container ∧ p.2 ≠ some .one ∧ p.1 ≠ some .two)
        ∧ (containerTest b v p = true ↔
            (b.line1.direction = .drop → p.1 = some .one ∨ p.2 = some .one)
            ∧ (∀ l, b.line2 = some l → l.direction = .drop → p.1 = some .two ∨ p.2 = some .two)
            ∧ (v.pos1.container ≠ none → p.1 ≠ none) ∧ (v.pos2.container ≠ none → p.2 ≠ none)))
    ∧ (∀ (v : Visit) (s : State) (n : Nat) (x : BookingVerdict × Option BlockNo), n ≤ 32 →
        x = walkInResolution v n (s.ring.reading none) →
        ((∃ b : BlockNo, x = (.walkIn, some b) ∧ n = b.val + 1)
          ↔ ((v.pos1.container ≠ none ∨ v.pos2.container ≠ none) ∧ n ≠ 0 ∧ s.ring.gap = false
            ∧ ∃ w, s.ring.window? s.ring.arrival = some w ∧ w.used < w.allowance))
        ∧ (x.1 ≠ .walkIn → x = (.walkInRefused, none)))

/-- The seal verdict: the first row of TABLE 6-1 that holds (R93). The damage score and verdict: the sum over the panels
present, then the first row of TABLE 6-3 that holds, the score absent when UNSCANNED (R94, R95). The outcome: the first
group of TABLE 6-9 in which any condition holds (R105). -/
def Obligations.JudgementsFollowTheirTables : Prop :=
  (∀ (q : List SealEntry) (line : Option BookingLine) (x : SealVerdict), x = judgeSeals q line →
      ((∃ e ∈ q, e.tamper = true) → x = .tamper)
      ∧ ((∀ e ∈ q, e.tamper = false) →
        (line = none → x = .unchecked)
        ∧ (∀ l, line = some l →
          ((∀ t ∈ l.seals, ∃ e ∈ q, e.text = t) → (∀ e ∈ q, e.text ∈ l.seals) → x = .isMatch)
          ∧ ((∀ t ∈ l.seals, ∃ e ∈ q, e.text = t) → (∃ e ∈ q, e.text ∉ l.seals) → x = .extra)
          ∧ (q = [] → l.seals ≠ [] → x = .missing)
          ∧ (q ≠ [] → (∃ t ∈ l.seals, ∀ e ∈ q, e.text ≠ t) → x = .mismatch))))
    ∧ (∀ (d : PerPanel (Option Nat)) (q : Params) (score : Nat) (x : Option Nat × DamageVerdict),
        x = judgeDamage d q →
        score = (d.front.getD 0 * q.weights.front + d.rear.getD 0 * q.weights.rear + d.left.getD 0 * q.weights.left
          + d.right.getD 0 * q.weights.right + d.roof.getD 0 * q.weights.roof + d.doors.getD 0 * q.weights.doors) →
        ((∀ k, d.get k = none) → x = (none, .unscanned))
        ∧ ((∃ k, d.get k ≠ none) →
          x.1 = some score
          ∧ ((q.surveyThreshold ≤ score ∨ ∃ k n, d.get k = some n ∧ q.stopSeverity ≤ n) → x.2 = .survey)
          ∧ ((score < q.surveyThreshold ∧ ∀ k n, d.get k = some n → n < q.stopSeverity) →
            (q.noteThreshold ≤ score → x.2 = .note) ∧ (score < q.noteThreshold → x.2 = .clean))))
    ∧ (∀ (v : Visit) (namesPlate : Bool) (o : VisitOutcome), o = v.decidedOutcome namesPlate →
      let seals : SealVerdict → Prop := fun x => v.pos1.sealVerdict = some x ∨ v.pos2.sealVerdict = some x
      let damage : DamageVerdict → Prop := fun x => v.pos1.damageVerdict = some x ∨ v.pos2.damageVerdict = some x
      let inspect : Prop := v.strongest = some .hold ∨ v.strongest = some .stopNow ∨ v.verdict = some .lineHold
        ∨ seals .tamper ∨ seals .mismatch ∨ (seals .missing ∧ v.marks.gap = false) ∨ damage .survey
      let trouble : Prop := v.marks.overflow = true ∨ v.marks.conflict = true
        ∨ (v.marks.plateConflict = true ∧ namesPlate = true) ∨ v.verdict = some .expired
        ∨ v.verdict = some .alreadyUsed ∨ v.verdict = some .plateMismatch ∨ v.verdict = some .containerMismatch
        ∨ (v.marks.gap = true ∧ (seals .missing ∨ damage .unscanned))
      let turn : Prop := v.verdict = some .tooEarly ∨ v.verdict = some .cancelled ∨ v.verdict = some .walkInRefused
      (inspect → o = .inspection) ∧ (¬ inspect → trouble → o = .trouble)
        ∧ (¬ inspect → ¬ trouble → turn → o = .turnedAway) ∧ (¬ inspect → ¬ trouble → ¬ turn → o = .admitted))

/-! ### Pacing -/

/-- A dispatch request is decided by the first row of TABLE 7-5 that applies, with the effects of R127 to R129: the
debit and PROCEED, the bay's staged entry, the lowest free row and STAGE, or the lane-wait entry and WAIT. -/
def Obligations.DispatchRequestsAreDecided : Prop :=
  ∀ (s : State) (r : RecNo) (v : Visit) (open? : Option BlockNo → Prop), v = s.visit r →
    (∀ x, open? x ↔ ∃ b, x = some b ∧ (s.block b).active = true ∧ 57600 ≤ (s.block b).credit
      ∧ (∀ e ∈ s.pacer.staged, e.block ≠ b) ∧ ∀ e ∈ s.pacer.laneWait, e.block ≠ b) →
    (∀ b w, (open? v.dispatch ∧ v.dispatch = some b ∧ w = { v with disposition := some .dispatched }
        ∨ ¬ open? v.dispatch ∧ open? v.alternate ∧ v.alternate = some b
          ∧ w = { v with disposition := some .dispatched, dispatch := some b, alternate := none }) →
      (∀ l, s.dispatchRequest r (.lane l) =
        (State.issueLane v.number l { kind := .proceed, visit := some v.number, block := some b }
          { s.debit b with asm := { s.asm with
            visits := s.asm.visits.set r.val { w with state := .directing } } }, .dispatched b))
      ∧ s.dispatchRequest r .bay =
        (State.issueBoard v.number inspectionBoard { kind := .proceed, visit := some v.number, block := some b }
          { s.debit b with asm := { s.asm with
            visits := s.asm.visits.set r.val
              { w with state := .releasing, finalDisposition := some .dispatched } } }, .dispatched b))
    ∧ (¬ open? v.dispatch → ¬ open? v.alternate → ∀ b, v.dispatch = some b →
      (s.dispatchRequest r .bay =
        ({ s with
            asm := { s.asm with
              visits := s.asm.visits.set r.val { v with disposition := some .staged, state := .staged } }
            pacer := { s.pacer with
              staged := s.pacer.staged ++ [⟨v.number, b, v.alternate, .bay, 0, false, false⟩] } }, .staged))
      ∧ (∀ (l : Lane) (w : RowNo), w.val < s.mgmt.params.stagingRows → s.rowState w = .free →
          (∀ i : RowNo, i < w → s.rowState i ≠ .free) →
        s.dispatchRequest r (.lane l) =
          (State.issueLane v.number l { kind := .stage, visit := some v.number, row := some w }
            { s with
              asm := { s.asm with
                visits := s.asm.visits.set r.val
                  { v with row := some w, disposition := some .staged, state := .directing } }
              pacer := { s.pacer with rows := s.pacer.rows.set w.val (.reserved v.number) } }, .staged))
      ∧ (∀ l : Lane, (∀ i : RowNo, i.val < s.mgmt.params.stagingRows → s.rowState i ≠ .free) →
        s.dispatchRequest r (.lane l) =
          (State.issueLane v.number l { kind := .wait, visit := some v.number }
            { s with
              asm := { s.asm with
                visits := s.asm.visits.set r.val
                  { v with disposition := some .waitingInLane, state := .waitingInLane } }
              pacer := { s.pacer with laneWait := s.pacer.laneWait ++ [⟨v.number, b⟩] } }, .waitingInLane)))

/-- A debit takes one truck's credit, counts a dispatch and restarts the idle countdown; at MRL dispatches without feedback
ADR falls by its decrease, the count is cleared and FEEDBACK_LOST is raised unless the flag was set (R120, R121). Release service: while the block can be debited, its oldest unreleased staged entry is debited for, marked released, its
visit made RELEASING with final disposition DISPATCHED and sent PROCEED at point 13, or 14 from the bay (R137); with none
left, its oldest lane-waiting visit is debited for, leaves the list, and DISPATCHED and DIRECTING is sent PROCEED at its
lane point (R138); and service goes on from there. A timed-out entry whose alternate block can be debited goes through
it, its block replaced by it (R140). Promotion: while a row is free, the oldest lane-waiting visit takes the lowest one,
STAGED and DIRECTING, and is sent STAGE at its lane point (R142). -/
def Obligations.CreditGoesToTheWaiters : Prop :=
  (∀ (s : State) (b : BlockNo) (x : YardBlock) (n : Nat), x = s.block b → n = min (x.dsf + 1) 65535 →
      ((x.params.mrl = 0 ∨ n < x.params.mrl) →
        s.debit b = { s with pacer := { s.pacer with
            blocks := s.pacer.blocks.set b.val
              { x with credit := x.credit - 57600, dsf := n, idleCountdown := x.params.idleReset } } })
      ∧ (x.params.mrl ≠ 0 → x.params.mrl ≤ n →
        s.debit b = (if x.feedbackLost then id else State.raise .feedbackLost)
          { s with pacer := { s.pacer with
              blocks := s.pacer.blocks.set b.val
                { x with
                  credit := x.credit - 57600
                  dsf := 0
                  idleCountdown := x.params.idleReset
                  adr := max (x.adr - x.adr * x.params.df / 256) x.params.mdr
                  feedbackLost := true } } }))
    ∧ (∀ (s : State) (b : BlockNo),
        (∀ t, t = s.releaseService b →
          t.canDebit b = false
            ∨ (∀ e ∈ t.pacer.staged, e.block = b → e.released = true) ∧ ∀ e ∈ t.pacer.laneWait, e.block ≠ b)
        ∧ (s.promoteAll.pacer.laneWait = [] ∨ s.promoteAll.freeRow? = none)
        ∧ (∀ e q, s.canDebit b = true → s.pacer.staged.find? (fun x => x.block == b && !x.released) = some e →
            q = s.releaseService b → ∀ f ∈ q.pacer.staged, f.visit = e.visit → f.released = true))
    ∧ (∀ (s : State) (b : BlockNo) (debitable : Prop),
        (debitable ↔ (s.block b).active = true ∧ 57600 ≤ (s.block b).credit) →
        ((¬ debitable ∨ (∀ e ∈ s.pacer.staged, e.block = b → e.released = true) ∧ ∀ e ∈ s.pacer.laneWait, e.block ≠ b) →
          s.releaseService b = s)
        ∧ (∀ a e c r p, debitable → s.pacer.staged = a ++ e :: c → (∀ x ∈ a, x.block = b → x.released = true) →
            e.block = b → e.released = false → s.findVisit e.visit = some r →
            ((∃ w, e.location = .row w) ∧ p = stagingBoard ∨ e.location = .bay ∧ p = inspectionBoard) →
            s.releaseService b = State.releaseService b (State.issueBoard e.visit p
              { kind := .proceed, visit := some e.visit, block := some b }
              { s.debit b with
                asm := { s.asm with visits := s.asm.visits.set r.val { s.visit r with
                  state := .releasing, finalDisposition := some .dispatched } }
                pacer := { (s.debit b).pacer with
                  staged := s.pacer.staged.map (fun x => if x.visit = e.visit then { x with released := true } else x) } }))
        ∧ (∀ a e c r, debitable → (∀ x ∈ s.pacer.staged, x.block = b → x.released = true) →
            s.pacer.laneWait = a ++ e :: c → (∀ x ∈ a, x.block ≠ b) → e.block = b → s.findVisit e.visit = some r →
            s.releaseService b = State.releaseService b (State.issueLane e.visit (s.visit r).lane
              { kind := .proceed, visit := some e.visit, block := some b }
              { s.debit b with
                asm := { s.asm with visits := s.asm.visits.set r.val { s.visit r with
                  disposition := some .dispatched, state := .directing } }
                pacer := { (s.debit b).pacer with
                  laneWait := s.pacer.laneWait.filter (fun x => x.visit ≠ e.visit) } })))
    ∧ (∀ (s : State) (n : Nat),
        ((∀ e ∈ s.pacer.staged, e.visit ≠ n) → s.serveAlternate n = s)
        ∧ (∀ a e c, s.pacer.staged = a ++ e :: c → e.visit = n → (∀ x ∈ a ++ c, x.visit ≠ n) →
          ((e.timedOut = false ∨ e.released = true ∨ e.alternate = none
              ∨ ∃ x, e.alternate = some x ∧ ((s.block x).active = false ∨ (s.block x).credit < 57600)) →
            s.serveAlternate n = s)
          ∧ (∀ x r p, e.timedOut = true → e.released = false → e.alternate = some x → (s.block x).active = true →
            57600 ≤ (s.block x).credit → s.findVisit n = some r →
            ((∃ w, e.location = .row w) ∧ p = stagingBoard ∨ e.location = .bay ∧ p = inspectionBoard) →
            s.serveAlternate n = State.issueBoard n p { kind := .proceed, visit := some n, block := some x }
              { s.debit x with
                asm := { s.asm with visits := s.asm.visits.set r.val { s.visit r with
                  dispatch := some x, alternate := none, state := .releasing, finalDisposition := some .dispatched } }
                pacer := { (s.debit x).pacer with
                  staged := a ++ { e with block := x, alternate := none, released := true } :: c } })))
    ∧ (∀ s : State,
        ((s.pacer.laneWait = [] ∨ ∀ w : RowNo, w.val < s.mgmt.params.stagingRows → s.rowState w ≠ .free) →
          s.promoteAll = s)
        ∧ (∀ e rest r (w : RowNo), s.pacer.laneWait = e :: rest → w.val < s.mgmt.params.stagingRows →
            s.rowState w = .free → (∀ i : RowNo, i < w → s.rowState i ≠ .free) → s.findVisit e.visit = some r →
            s.promoteAll = State.promoteAll (State.issueLane e.visit (s.visit r).lane
              { kind := .stage, visit := some e.visit, row := some w }
              { s with
                asm := { s.asm with visits := s.asm.visits.set r.val { s.visit r with
                  row := some w, disposition := some .staged, state := .directing } }
                pacer := { s.pacer with rows := s.pacer.rows.set w.val (.reserved e.visit), laneWait := rest } })))

/-! ### Management requests -/

/-- STATION_WRITE: the index, the fields and the station number in this order, then the entry set or emptied; and
STATION_READ (R29). CODE_WRITE, CODE_READ and ALERT_READ: the tests, the entry replaced, the fields returned, and the
latch returned and emptied (R18, R19). WATCH_WRITE and WATCH_READ: the index, the field tests of R97, the entry replaced
whole or its valid flag cleared, and the fields returned. -/
def Obligations.StationCodeAlertAndWatchRequests : Prop :=
  ((∀ (s : State) (tag i n p r : Nat) (valid : Bool) (rest : List Request),
        s.takes tag (.stationWrite i valid n p r) rest →
        let answers : Status → State → Prop := fun st t =>
          exec .stationWrite s = .next (State.settle (State.answeredWith rest ⟨tag, 1, st, .none⟩ t))
        (64 ≤ i → answers .badIndex s)
        ∧ (∀ j : Fin 64, i = j.val →
          (valid = false → answers .ok
            { s with intake := { s.intake with stations := s.intake.stations.set j.val none } })
          ∧ (valid = true →
            ((n = 0 ∨ 254 < n ∨ p = 0 ∨ 14 < p ∨ r = 0 ∨ 3 < r) → answers .badRecord s)
            ∧ (∀ (q : Point) (role : Role), 1 ≤ n → n ≤ 254 → p = q.val + 1 → r = role.wire →
              ((∃ (k : Fin 64) (e : Station), k ≠ j ∧ s.intake.stations[k] = some e ∧ e.number = n) → answers .inUse s)
              ∧ ((∀ (k : Fin 64) (e : Station), k ≠ j → s.intake.stations[k] = some e → e.number ≠ n) →
                answers .ok
                  { s with intake := { s.intake with stations := s.intake.stations.set j.val (some ⟨n, q, role⟩) } })))))
      ∧ (∀ (s : State) (tag i : Nat) (rest : List Request), s.takes tag (.stationRead i) rest →
        (64 ≤ i → exec .stationRead s = .next (State.settle (State.answeredWith rest ⟨tag, 2, .badIndex, .none⟩ s)))
        ∧ (∀ j : Fin 64, i = j.val → exec .stationRead s = .next (State.settle
            (State.answeredWith rest ⟨tag, 2, .ok, .station s.intake.stations[j]⟩ s)))))
    ∧ ((∀ (s : State) (tag i c m : Nat) (marker : Bool) (rest : List Request), s.takes tag (.codeWrite i c m marker) rest →
          let answers : Status → State → Prop := fun st t =>
            exec .codeWrite s = .next (State.settle (State.answeredWith rest ⟨tag, 3, st, .none⟩ t))
          (8 ≤ i → answers .badIndex s)
          ∧ (i < 8 → (m = 0 ∨ 2 < m ∨ marker = false ∧ (c = 0 ∨ 255 < c)) → answers .badRecord s)
          ∧ (∀ (j : Fin 8) (mode : CodeMode), i = j.val → m = mode.wire → (marker = false → 1 ≤ c ∧ c ≤ 255) →
            answers .ok { s with intake := { s.intake with codes := s.intake.codes.set j.val ⟨c, mode, marker⟩ } }))
        ∧ (∀ (s : State) (tag i : Nat) (rest : List Request), s.takes tag (.codeRead i) rest →
          (8 ≤ i → exec .codeRead s = .next (State.settle (State.answeredWith rest ⟨tag, 4, .badIndex, .none⟩ s)))
          ∧ (∀ j : Fin 8, i = j.val → exec .codeRead s = .next (State.settle
              (State.answeredWith rest ⟨tag, 4, .ok, .code s.intake.codes[j]⟩ s))))
        ∧ (∀ (s : State) (tag i : Nat) (rest : List Request), s.takes tag (.alertRead i) rest →
          ((i = 0 ∨ 12 < i) →
            exec .alertRead s = .next (State.settle (State.answeredWith rest ⟨tag, 31, .badIndex, .none⟩ s)))
          ∧ (∀ l : Lane, i = l.val + 1 → exec .alertRead s = .next (State.settle
              (State.answeredWith rest ⟨tag, 31, .ok, .alert s.intake.latches[l]⟩
                { s with intake := { s.intake with latches := s.intake.latches.set l.val none } })))))
    ∧ ((∀ (s : State) (tag i : Nat) (valid : Bool) (w : RawWatch) (rest : List Request),
        s.takes tag (.watchWrite i valid w) rest →
        let answers : Status → State → Prop := fun st t =>
          exec .watchWrite s = .next (State.settle (State.answeredWith rest ⟨tag, 5, st, .none⟩ t))
        let badText : Prop := w.text.length = 0 ∨ 11 < w.text.length ∨
          ∃ x ∈ w.text.places.take w.text.length, isLetter x = false ∧ isDigit x = false
        (64 ≤ i → answers .badIndex s)
        ∧ (∀ j : Fin 64, i = j.val →
          (valid = false → answers .ok { s with watch := s.watch.set j.val { s.watch[j] with valid := false } })
          ∧ (valid = true → w.text.places.length = 11 →
            ((w.kind = 0 ∨ 5 < w.kind ∨ w.action = 0 ∨ 3 < w.action ∨ w.timing = 0 ∨ 2 < w.timing
                ∨ (63 < w.predecessor ∧ w.predecessor ≠ 255)
                ∨ (w.kind = 5 ∧ 31 < w.maskWidth)
                ∨ (1 ≤ w.kind ∧ w.kind ≤ 4 ∧ (badText ∨ w.compareLength = 0 ∨ 11 < w.compareLength))) →
              answers .badRecord s)
            ∧ (∀ e : WatchEntry, e.valid = true → w.kind = e.kind.wire → w.action = e.action.wire →
                w.timing = e.timing.wire → w.predecessor = e.predecessor.getD 255 →
                (∀ n, e.predecessor = some n → n ≤ 63) →
                (w.kind = 5 ∧ w.maskWidth ≤ 31 ∧ e.key = .reference w.reference w.maskWidth
                  ∨ w.kind ≠ 5 ∧ ¬ badText ∧ 1 ≤ w.compareLength ∧ w.compareLength ≤ 11
                    ∧ e.key = .text (w.text.places.take w.text.length) w.compareLength) →
              answers .ok { s with watch := s.watch.set j.val e }))))
      ∧ (∀ (s : State) (tag i : Nat) (rest : List Request), s.takes tag (.watchRead i) rest →
        (64 ≤ i → exec .watchRead s = .next (State.settle (State.answeredWith rest ⟨tag, 6, .badIndex, .none⟩ s)))
        ∧ (∀ j : Fin 64, i = j.val → exec .watchRead s = .next (State.settle
            (State.answeredWith rest ⟨tag, 6, .ok, .watch s.watch[j]⟩ s)))))

/-- WINDOW_WRITE and WINDOW_DELETE: the tests in order, the counts a rewrite keeps and a new window starts, and the gap
flag set when the arrival period loses its slot (R63 to R65). -/
def Obligations.WindowWritesAndDeletes : Prop :=
  (∀ (s : State) (tag p st len cap al e l : Nat) (rest : List Request) (i : Fin 96) (legal : Prop),
      s.takes tag (.windowWrite p st len cap al e l) rest → i.val = p % 96 →
      (legal ↔ 300 ≤ len ∧ len ≤ 7200 ∧ len % 60 = 0 ∧ st + len ≤ 4294967295 ∧ cap ≤ 4095 ∧ al ≤ 4095 ∧ e ≤ 7
        ∧ l ≤ 7) →
      let answers : Status → Ring → Prop := fun x r =>
        exec .windowWrite s = .next (State.settle (State.answeredWith rest ⟨tag, 7, x, .none⟩ { s with ring := r }))
      let fresh : Option Window := some ⟨p, st, len, cap, 0, 0, al, 0, e, l⟩
      (¬ legal → answers .badRecord s.ring)
      ∧ (legal →
        (∀ w, s.ring.slots[i] = some w → w.period = p →
          ((cap < w.booked ∨ al < w.used) → answers .inUse s.ring)
          ∧ (w.booked ≤ cap → w.used ≤ al → answers .ok
              { s.ring with
                slots := s.ring.slots.set i.val
                  (some ⟨p, st, len, cap, w.booked, w.arrived, al, w.used, e, l⟩) }))
        ∧ (∀ w, s.ring.slots[i] = some w → w.period ≠ p → 0 < w.booked → answers .inUse s.ring)
        ∧ ((s.ring.slots[i] = none ∨ ∃ w, s.ring.slots[i] = some w ∧ w.period ≠ p ∧ w.booked = 0) →
          answers .ok
            { s.ring with
              slots := s.ring.slots.set i.val fresh
              gap := s.ring.gap || (decide (s.ring.arrival % 96 = i.val) && decide (s.ring.arrival ≠ p))
                || (s.ring.window? s.ring.arrival).isNone && decide (s.ring.arrival ≠ p) })))
    ∧ (∀ (s : State) (tag p : Nat) (rest : List Request) (i : Fin 96), s.takes tag (.windowDelete p) rest →
      i.val = p % 96 →
      let answers : Status → Ring → Prop := fun x r =>
        exec .windowDelete s = .next (State.settle (State.answeredWith rest ⟨tag, 8, x, .none⟩ { s with ring := r }))
      ((∀ w, s.ring.slots[i] = some w → w.period ≠ p) → answers .notFound s.ring)
      ∧ (∀ w, s.ring.slots[i] = some w → w.period = p →
        (0 < w.booked → answers .inUse s.ring)
        ∧ (w.booked = 0 → (s.ring.gap = true ∨ (s.ring.window? s.ring.arrival).isSome = true) → answers .ok
            { s.ring with
              slots := s.ring.slots.set i.val none
              gap := s.ring.gap || decide (s.ring.arrival = p) })))

/-- BLOCK_WRITE, BLOCK_TUNE and BLOCK_DISABLE: the tests in order and what each sets (R112 to R114). -/
def Obligations.BlockWritesTunesDisables : Prop :=
  ∀ (legal : BlockParams → Prop),
    (∀ p, legal p ↔ p.pdr ≤ 16383 ∧ p.mdr ≤ p.idr ∧ p.idr ≤ p.pdr ∧ p.ais ≤ 4095 ∧ p.df ≤ 255 ∧ p.mrl ≤ 255
      ∧ 1 ≤ p.burst ∧ p.burst ≤ 15 ∧ p.idleReset ≤ 65535) →
    (∀ (s : State) (tag n : Nat) (p : BlockParams) (rest : List Request), s.takes tag (.blockWrite n p) rest →
      let answers : Status → State → Prop := fun x t =>
        exec .blockWrite s = .next (State.settle (State.answeredWith rest ⟨tag, 10, x, .none⟩ t))
      ((n = 0 ∨ 32 < n) → answers .badIndex s)
      ∧ (∀ b : BlockNo, n = b.val + 1 →
        (¬ legal p → answers .badRecord s)
        ∧ (legal p → answers .ok { s with pacer := { s.pacer with
            blocks := s.pacer.blocks.set b.val ⟨true, true, p, p.idr, 0, 0, p.idleReset, false⟩ } })))
    ∧ (∀ (s : State) (tag n : Nat) (p : BlockParams) (rest : List Request), s.takes tag (.blockTune n p) rest →
      let answers : Status → State → Prop := fun x t =>
        exec .blockTune s = .next (State.settle (State.answeredWith rest ⟨tag, 11, x, .none⟩ t))
      ((n = 0 ∨ 32 < n) → answers .badIndex s)
      ∧ (∀ b : BlockNo, n = b.val + 1 →
        (¬ legal p → answers .badRecord s)
        ∧ (legal p → (s.block b).written = false → answers .wrongState s)
        ∧ (legal p → (s.block b).written = true → answers .ok { s with pacer := { s.pacer with
            blocks := s.pacer.blocks.set b.val { s.block b with
              params := p
              adr := max (min (s.block b).adr p.pdr) p.mdr
              credit := min (s.block b).credit (p.burst * 57600)
              idleCountdown := min (s.block b).idleCountdown p.idleReset } } })))
    ∧ (∀ (s : State) (tag n : Nat) (rest : List Request), s.takes tag (.blockDisable n) rest →
      let answers : Status → State → Prop := fun x t =>
        exec .blockDisable s = .next (State.settle (State.answeredWith rest ⟨tag, 12, x, .none⟩ t))
      ((n = 0 ∨ 32 < n) → answers .badIndex s)
      ∧ (∀ b : BlockNo, n = b.val + 1 →
        ((s.block b).active = false → answers .wrongState s)
        ∧ ((s.block b).active = true → answers .ok { s with pacer := { s.pacer with
            blocks := s.pacer.blocks.set b.val { s.block b with active := false } } })))

/-- WINDOW_READ, BLOCK_READ, VISIT_READ and IDENTIFY answer with what stands and change nothing (R66, R71, R115, R25,
R177). -/
def Obligations.ReadsAnswerWithWhatStands : Prop :=
  ∀ (s : State) (tag n : Nat) (rest : List Request),
    (s.takes tag (.windowRead n) rest →
      let answers : Status → Results → Prop := fun x q =>
        exec .windowRead s = .next (State.settle (State.answeredWith rest ⟨tag, 9, x, q⟩ s))
      (96 ≤ n → answers .badIndex .none)
      ∧ (∀ i : Fin 96, n = i.val →
        (s.ring.slots[i] = none → answers .ok (.window none .empty s.ring.arrival s.ring.gap s.mgmt.clock))
        ∧ (∀ w x, s.ring.slots[i] = some w →
          (s.ring.arrival < w.period ∧ x = .future ∨ w.period = s.ring.arrival ∧ x = .current
            ∨ s.ring.arrival - w.late ≤ w.period ∧ w.period < s.ring.arrival ∧ x = .past
            ∨ w.period < s.ring.arrival - w.late ∧ x = .closed) →
          answers .ok (.window (some w) x s.ring.arrival s.ring.gap s.mgmt.clock))))
    ∧ (s.takes tag (.blockRead n) rest →
      let answers : Status → Results → Prop := fun x q =>
        exec .blockRead s = .next (State.settle (State.answeredWith rest ⟨tag, 13, x, q⟩ s))
      ((n = 0 ∨ 32 < n) → answers .badIndex .none)
      ∧ (∀ b : BlockNo, n = b.val + 1 → answers .ok (.block (s.block b)
          (s.pacer.staged.filter (fun e => e.block = b)).length
          (s.pacer.laneWait.filter (fun e => e.block = b)).length)))
    ∧ (s.takes tag (.visitRead n) rest →
      let answers : Status → Results → Prop := fun x q =>
        exec .visitRead s = .next (State.settle (State.answeredWith rest ⟨tag, 25, x, q⟩ s))
      (n = 0 → answers .badRecord .none)
      ∧ (n ≠ 0 → (∀ i : RecNo, (s.visit i).number = n → (s.visit i).state = .free) → answers .notFound .none)
      ∧ (∀ r : RecNo, n ≠ 0 → (s.visit r).number = n → (s.visit r).state ≠ .free →
          (∀ i : RecNo, (s.visit i).number = n → (s.visit i).state ≠ .free → i = r) →
        ∃ p, answers .ok (.visit (s.visit r) p)
          ∧ (p = none ↔ ∀ y ∈ s.engine.pendings, y.visit ≠ n)
          ∧ ∀ d, p = some d → ∃ y ∈ s.engine.pendings, y.visit = n ∧ y.direction = d))
    ∧ (s.takes tag .identify rest →
      exec .identify s = .next (State.settle (State.answeredWith rest ⟨tag, 36, .ok,
        .identity s.mgmt.unitAddr s.mgmt.typeHigh s.store.partition (bookingCapacity s.store.partition) s.mgmt.clock
          s.mgmt.reportNumber⟩ s)))

/-- PARAM_WRITE and PARAM_READ: the tests of R167 and R143, the value set and answered, a newly enabled set flag that starts
a NOTICE (R171), and a raised number of staging rows that promotes (R142); with the ranges of TABLE 10-2 and the notice
mask's value as a set of classes (R188). That a mask value of 512 or more, which sets bits that name no class, is out of
range and refused is the model's choice (log entry 15), and so is that the value which a PARAM_READ request carries has no
effect (log entry 25). -/
def Obligations.ParametersAreWrittenAndRead : Prop :=
  ((∀ (s : State) (tag n v : Nat) (rest : List Request), s.takes tag (.paramWrite n v) rest →
        let answers : Status → Results → State → Prop := fun x q t =>
          exec .paramWrite s = .next (State.settle (State.answeredWith rest ⟨tag, 18, x, q⟩ t))
        (18 < n → answers .badIndex .none s)
        ∧ (n ≤ 18 → paramRange n v = false → answers .badRecord .none s)
        ∧ (n = 6 → paramRange n v = true → v < s.rowsHeld → answers .inUse .none s)
        ∧ (n ≤ 18 → n ≠ 6 → n ≠ 17 → paramRange n v = true →
          ∃ p t, t = { s with mgmt := { s.mgmt with params := p } } ∧ answers .ok (.param v) t ∧ t.paramValue n = v
            ∧ ∀ m, m ≤ 18 → m ≠ n → t.paramValue m = s.paramValue m)
        ∧ (n = 6 → paramRange n v = true → s.rowsHeld ≤ v →
          ∃ u, u = { s with mgmt := { s.mgmt with queue := rest, params := { s.mgmt.params with stagingRows := v } } }
            ∧ answers .ok (.param v) (if s.mgmt.params.stagingRows < v then u.promoteAll else u))
        ∧ (n = 17 → v < 512 →
          ∃ m x, answers .ok (.param v) { s with mgmt := { s.mgmt with mask := m, noticeWaiting := x } }
            ∧ (∀ k : NoticeClass, m.has k = v.testBit k.bit)
            ∧ (x = true ↔ s.mgmt.noticeWaiting = true ∨
                ∃ k : NoticeClass, v.testBit k.bit = true ∧ s.mgmt.mask.has k = false ∧ s.mgmt.flags.has k = true)))
      ∧ (∀ (s : State) (tag n v : Nat) (rest : List Request), s.takes tag (.paramRead n v) rest →
        (18 < n → exec .paramRead s = .next (State.settle (State.answeredWith rest ⟨tag, 19, .badIndex, .none⟩ s)))
        ∧ (n ≤ 18 → exec .paramRead s = .next (State.settle
            (State.answeredWith rest ⟨tag, 19, .ok, .param (s.paramValue n)⟩ s)))))
    ∧ ((∀ v : Nat,
          (paramRange 0 v = true ↔ 5 ≤ v ∧ v ≤ 600) ∧ (paramRange 1 v = true ↔ v ≤ 100)
          ∧ (paramRange 2 v = true ↔ 1 ≤ v ∧ v ≤ 15) ∧ (paramRange 3 v = true ↔ v ≤ 7)
          ∧ (paramRange 4 v = true ↔ 10 ≤ v ∧ v ≤ 600) ∧ (paramRange 5 v = true ↔ 60 ≤ v ∧ v ≤ 7200)
          ∧ (paramRange 6 v = true ↔ 1 ≤ v ∧ v ≤ 24) ∧ (paramRange 7 v = true ↔ v ≤ 32)
          ∧ (∀ n, 8 ≤ n → n ≤ 13 → (paramRange n v = true ↔ v ≤ 15))
          ∧ (paramRange 14 v = true ↔ v ≤ 630) ∧ (paramRange 15 v = true ↔ v ≤ 630)
          ∧ (paramRange 16 v = true ↔ 1 ≤ v ∧ v ≤ 7) ∧ (paramRange 17 v = true ↔ v < 512)
          ∧ (paramRange 18 v = true ↔ v = 1 ∨ v = 2) ∧ (∀ n, 18 < n → paramRange n v = false))
        ∧ (∀ s : State, s.paramValue 17 < 512 ∧ ∀ k : NoticeClass, (s.paramValue 17).testBit k.bit = s.mgmt.mask.has k))

/-- TIME_SET: the clock takes the value and the ring re-derives the arrival period, the highest whose window contains it, or
enters a gap (R169, R70). COUNTERS_READ answers with every counter and the clock, and with the clear flag leaves every
counter 0 (R173). REPORT_HOLD and REPORT_RESUME turn the hold, or are refused (R176). -/
def Obligations.TimeCountersAndReportHold : Prop :=
  (∀ (s : State) (tag v : Nat) (rest : List Request), s.takes tag (.timeSet v) rest →
      ∃ r : Ring, exec .timeSet s = .next (State.settle (State.answeredWith rest ⟨tag, 21, .ok, .times s.mgmt.clock v⟩
          { s with mgmt := { s.mgmt with clock := v }, ring := r }))
        ∧ r.slots = s.ring.slots
        ∧ ((∀ (i : Fin 96) (w : Window), s.ring.slots[i] = some w → ¬ (w.start ≤ v ∧ v < w.start + w.length)) →
            r.arrival = s.ring.arrival ∧ r.gap = true)
        ∧ (∀ (i : Fin 96) (w : Window), s.ring.slots[i] = some w → w.start ≤ v → v < w.start + w.length →
            (∀ (j : Fin 96) (x : Window), s.ring.slots[j] = some x → x.start ≤ v → v < x.start + x.length →
              x.period ≤ w.period) →
            r.arrival = w.period ∧ r.gap = false))
    ∧ (∀ (s : State) (tag : Nat) (rest : List Request),
        (s.takes tag (.countersRead false) rest →
          exec .countersRead s = .next (State.settle (State.answeredWith rest
            ⟨tag, 32, .ok, .counters s.mgmt.laneCounters s.mgmt.partCounters s.mgmt.clock⟩ s)))
        ∧ (s.takes tag (.countersRead true) rest →
          ∃ d p, exec .countersRead s = .next (State.settle (State.answeredWith rest
              ⟨tag, 32, .ok, .counters s.mgmt.laneCounters s.mgmt.partCounters s.mgmt.clock⟩
              { s with mgmt := { s.mgmt with laneCounters := d, partCounters := p } }))
            ∧ (∀ (l : Lane) k, (d[l]).get k = 0) ∧ ∀ k, p.get k = 0)
        ∧ (s.takes tag .reportHold rest →
          (s.mgmt.hold = false → exec .reportHold s = .next (State.settle (State.answeredWith rest
            ⟨tag, 33, .ok, .reports s.mgmt.reportQueue.length s.mgmt.reportWait.length⟩
            { s with mgmt := { s.mgmt with hold := true } })))
          ∧ (s.mgmt.hold = true → exec .reportHold s = .next (State.settle (State.answeredWith rest
            ⟨tag, 33, .wrongState, .none⟩ s))))
        ∧ (s.takes tag .reportResume rest →
          (s.mgmt.hold = true → exec .reportResume s = .next (State.settle (State.answeredWith rest
            ⟨tag, 34, .ok, .reports s.mgmt.reportQueue.length s.mgmt.reportWait.length⟩
            { s with mgmt := { s.mgmt with hold := false } })))
          ∧ (s.mgmt.hold = false → exec .reportResume s = .next (State.settle (State.answeredWith rest
            ⟨tag, 34, .wrongState, .none⟩ s)))))

/-- LANE_OPEN (R21). LANE_STOP and LANE_FLUSH: the lane's visit closed with its reason (R20), the lane CLOSED and LANE_CLOSED
placed as an urgent by the stop, and the number of the visit answered, or 0 (R22, R23). -/
def Obligations.LanesOpenStopAndFlush : Prop :=
  (∀ (s : State) (tag n : Nat) (rest : List Request), s.takes tag (.laneOpen n) rest →
      let answers : Status → State → Prop := fun x t =>
        exec .laneOpen s = .next (State.settle (State.answeredWith rest ⟨tag, 22, x, .none⟩ t))
      ((n = 0 ∨ 12 < n) → answers .badIndex s)
      ∧ (∀ l : Lane, n = l.val + 1 →
        ((s.lane l).state = .closed → answers .ok { s with asm := { s.asm with
            lanes := s.asm.lanes.set l.val { s.lane l with state := .opened } } })
        ∧ ((s.lane l).state = .opened → answers .wrongState s)))
    ∧ (∀ (s : State) (tag n : Nat) (rest : List Request) (closed : State → Lane → RecNo → CloseReason → State),
        (∀ t l r k, closed t l r k =
          { t with
            asm := { t.asm with
              visits := t.asm.visits.set r.val { t.visit r with
                state := .checking, closedAt := some t.mgmt.clock, closeReason := some k }
              lanes := t.asm.lanes.set l.val { t.lane l with openVisit := none, idleCountdown := none } }
            check := { t.check with queue := t.check.queue ++ [r] }
            engine := { t.engine with
              departures := t.engine.departures.set l.val (t.departures l ++ [⟨r, false⟩]) } }) →
        (s.takes tag (.laneStop n) rest →
          let answers : Status → Results → State → Prop := fun x q t =>
            exec .laneStop s = .next (State.settle (State.answeredWith rest ⟨tag, 23, x, q⟩ t))
          ((n = 0 ∨ 12 < n) → answers .badIndex .none s)
          ∧ (∀ l : Lane, n = l.val + 1 →
            ((s.lane l).state = .closed → answers .wrongState .none s)
            ∧ (∀ u v k, (s.lane l).state = .opened →
                ((s.lane l).openVisit = none ∧ u = s ∧ k = 0
                  ∨ ∃ r, (s.lane l).openVisit = some r ∧ u = closed s l r .laneStop ∧ k = (s.visit r).number) →
                v = { u with
                      mgmt := { u.mgmt with queue := rest }
                      asm := { u.asm with lanes := u.asm.lanes.set l.val { u.lane l with state := .closed } } } →
              answers .ok (.visitNumber k) (v.placeUrgent (lanePoint l) { kind := .laneClosed }).1)))
        ∧ (s.takes tag (.laneFlush n) rest →
          let answers : Status → Results → State → Prop := fun x q t =>
            exec .laneFlush s = .next (State.settle (State.answeredWith rest ⟨tag, 24, x, q⟩ t))
          ((n = 0 ∨ 12 < n) → answers .badIndex .none s)
          ∧ (∀ l : Lane, n = l.val + 1 →
            ((s.lane l).openVisit = none → answers .ok (.visitNumber 0) s)
            ∧ (∀ r, (s.lane l).openVisit = some r →
              answers .ok (.visitNumber (s.visit r).number) (closed s l r .flush)))))

/-- VISIT_RELEASE and VISIT_REJECT: the tests in order; a HELD visit released by a dispatch request from the bay, its
blocks replaced when a block is given, or rejected with TURN_BACK at point 14 (R145, R146). -/
def Obligations.HeldVisitsAreReleasedOrRejected : Prop :=
  ∀ (s u : State) (tag n : Nat) (rest : List Request), u = { s with mgmt := { s.mgmt with queue := rest } } →
    (∀ b : Option Nat, s.takes tag (.visitRelease n b) rest →
      let answers : Status → Results → State → Prop := fun x q t =>
        exec .visitRelease s = .next (State.settle (State.answeredWith rest ⟨tag, 26, x, q⟩ t))
      ((n = 0 ∨ ∃ x, b = some x ∧ (x = 0 ∨ 32 < x)) → answers .badRecord .none s)
      ∧ (n ≠ 0 → (∀ x, b = some x → 1 ≤ x ∧ x ≤ 32) →
        (s.findVisit n = none → answers .notFound .none s)
        ∧ (∀ r, s.findVisit n = some r →
          ((s.visit r).state ≠ .held → answers .wrongState .none s)
          ∧ ((s.visit r).state = .held → b = none → (s.visit r).dispatch = none → answers .badRecord .none s)
          ∧ (∀ t, (s.visit r).state = .held →
              (b = none ∧ (s.visit r).dispatch ≠ none ∧ t = u
                ∨ ∃ k : BlockNo, b = some (k.val + 1) ∧ t = { u with asm := { u.asm with
                    visits := u.asm.visits.set r.val { u.visit r with dispatch := some k, alternate := none } } }) →
            answers .ok (.release (t.dispatchRequest r .bay).2) (t.dispatchRequest r .bay).1))))
    ∧ (s.takes tag (.visitReject n) rest →
      let answers : Status → State → Prop := fun x t =>
        exec .visitReject s = .next (State.settle (State.answeredWith rest ⟨tag, 27, x, .none⟩ t))
      (n = 0 → answers .badRecord s)
      ∧ (n ≠ 0 → s.findVisit n = none → answers .notFound s)
      ∧ (∀ r, n ≠ 0 → s.findVisit n = some r →
        ((s.visit r).state ≠ .held → answers .wrongState s)
        ∧ ((s.visit r).state = .held →
          answers .ok (State.issueBoard (s.visit r).number inspectionBoard
            { kind := .turnBack, visit := some (s.visit r).number }
            { u with asm := { u.asm with
                visits := u.asm.visits.set r.val { s.visit r with
                  state := .releasing, finalDisposition := some .turnedAway } } }))))

/-- The requests that use the table store are taken and ask for their access, SET_PARTITION after its own refusals; their
effect and answer come with the access (R49, R53 to R57, R166). BAD_REQUEST: an unknown kind or a wrong body length is
answered BAD_REQUEST with the kind byte as it came, an empty body's as 0 (R166). Three points are the model's: the access
asked for waits for TABLE_STORE_GRANT even at a free store (log entry 6), the body length of each kind is the one that the
field order chosen gives (log entry 9), and the byte echoed (log entry 13). -/
def Obligations.RequestsAskForAccessOrAreBad : Prop :=
  (∀ (s : State) (tag : Nat) (rest : List Request),
      let asks : Nat → MgmtAccess → State := fun k a =>
        { s with
          mgmt := { s.mgmt with unit := .accessing tag k, queue := rest }
          store := { s.store with mgmtWaiting := some a } }
      (∀ b, s.takes tag (.bookingWrite b) rest → exec .bookingWrite s = .next (asks 14 (.bookingWrite b)).settle)
      ∧ (∀ i g, s.takes tag (.bookingCancel i g) rest →
        exec .bookingCancel s = .next (asks 15 (.bookingCancel i g)).settle)
      ∧ (∀ i g, s.takes tag (.bookingDelete i g) rest →
        exec .bookingDelete s = .next (asks 16 (.bookingDelete i g)).settle)
      ∧ (∀ i g, s.takes tag (.bookingRead i g) rest → exec .bookingRead s = .next (asks 17 (.bookingRead i g)).settle)
      ∧ (∀ g, s.takes tag (.setPartition g) rest →
        (2 < g → exec .setPartition s = .next (State.settle (State.answeredWith rest ⟨tag, 20, .badRecord, .none⟩ s)))
        ∧ (g ≤ 2 → ((∃ l : Lane, (s.lane l).state = .opened) ∨ ∃ r : RecNo, (s.visit r).state ≠ .free) →
          exec .setPartition s = .next (State.settle (State.answeredWith rest ⟨tag, 20, .lanesOpen, .none⟩ s)))
        ∧ (g ≤ 2 → (∀ l : Lane, (s.lane l).state = .closed) → (∀ r : RecNo, (s.visit r).state = .free) →
          exec .setPartition s = .next (asks 20 (.clear g)).settle)))
    ∧ (∀ (s : State) (tag : Nat) (body : List Byte) (rest : List Request), s.mgmt.unit = .idle →
        s.mgmt.queue = ⟨tag, body⟩ :: rest →
        ((byteAt body 0 = 0 ∨ 36 < byteAt body 0 ∨ body.length ≠ requestLength (byteAt body 0)) →
          exec .badRequest s = .next (State.settle
            (State.answeredWith rest ⟨tag, byteAt body 0, .badRequest, .none⟩ s))))

/-- MANAGEMENT_ACCESS_COMPLETE for BOOKING_WRITE: the tests of R52 in order, the fields test by test as R52 lists them and
the record that fields within their values give; then the record OPEN, the booked count, one
insertion per DROP line in line order, and OK or INDEX_PARTIAL (R44, R52, R53). An insertion: nothing for a PICK line; the
first empty way of the key's bucket takes the entry, and with all four valid it fails and is counted (R47, R48). -/
def Obligations.BookingWritesComplete : Prop :=
  (∀ (s : State) (tag : Nat) (b : RawBooking), s.store.granted = some (.mgmt (.bookingWrite b)) →
      s.mgmt.unit = .accessing tag 14 →
      let answers : Status → Results → State → Prop := fun x q t =>
        exec .managementAccessComplete s = .next (State.settle
          (State.answeredWith s.mgmt.queue ⟨tag, 14, x, q⟩ { t with store := t.store.release }))
      (bookingCapacity s.store.partition ≤ b.index → answers .badIndex .none s)
      ∧ (b.index < bookingCapacity s.store.partition →
        (b.booking? = none → answers .badRecord .none s)
        ∧ (∀ k, b.booking? = some k →
          ((readCell b.index s.store.bookings).isSome = true → answers .inUse .none s)
          ∧ (readCell b.index s.store.bookings = none →
            (s.ring.window? k.period = none → answers .notFound .none s)
            ∧ (∀ w, s.ring.window? k.period = some w →
              (w.capacity ≤ w.booked → answers .tableFull .none s)
              ∧ (w.booked < w.capacity →
                ∃ (u : State) (t : State × State) (x y : LineIndexed),
                  u = { s with
                        store := { s.store with bookings := writeCell b.index k s.store.bookings }
                        ring := s.ring.modWindow k.period (fun w => { w with booked := w.booked + 1 }) }
                  ∧ t.1 = (u.insertLine b.index k.line1).1 ∧ x = (u.insertLine b.index k.line1).2
                  ∧ (k.line2 = none → t.2 = t.1 ∧ y = none)
                  ∧ (∀ l, k.line2 = some l → t.2 = (t.1.insertLine b.index l).1 ∧ y = (t.1.insertLine b.index l).2)
                  ∧ (x = some false ∨ y = some false → answers .indexPartial (.bookingIndexed x y) t.2)
                  ∧ (x ≠ some false → y ≠ some false → answers .ok .none t.2)))))))
    ∧ (∀ b : RawBooking, (MgmtRequest.bookingWrite b).fits = true →
        let kept : RawText → Text := fun x => x.places.take x.length
        let badText : RawText → Prop := fun x => x.length = 0 ∨ 11 < x.length
          ∨ ∃ y ∈ kept x, isLetter y = false ∧ isDigit y = false
        let badNumber : RawText → Prop := fun x => x.length ≠ 11
          ∨ (∃ i, i < 4 ∧ isLetter (x.places.getD i 0) = false)
          ∨ ∃ i, 4 ≤ i ∧ i < 11 ∧ isDigit (x.places.getD i 0) = false
        let badLine : RawLine → Prop := fun l =>
          l.direction = 0 ∨ 2 < l.direction ∨ (l.sizeClass ≠ 20 ∧ l.sizeClass ≠ 40 ∧ l.sizeClass ≠ 45)
            ∨ l.load = 0 ∨ 2 < l.load ∨ (l.direction = 1 ∧ l.container.length = 0)
            ∨ (l.container.length ≠ 0 ∧ badNumber l.container) ∨ 2 < l.sealCount
            ∨ (∃ x ∈ l.seals.take l.sealCount, badText x)
            ∨ (∃ x y, l.seals = [x, y] ∧ l.sealCount = 2 ∧ kept x = kept y) ∨ (l.load = 2 ∧ l.sealCount ≠ 0)
            ∨ l.primary = 0 ∨ 32 < l.primary ∨ 32 < l.alternate
        let bad : Prop := b.tag = 0 ∨ 524287 < b.tag ∨ (b.lineCount ≠ 1 ∧ b.lineCount ≠ 2)
          ∨ (b.plate.length ≠ 0 ∧ badText b.plate) ∨ badLine b.line1
          ∨ (b.lineCount = 2 ∧ (badLine b.line2
            ∨ b.line1.direction = 1 ∧ b.line2.direction = 1 ∧ kept b.line1.container = kept b.line2.container))
        let optional : RawText → Option Text := fun x => if x.length = 0 then none else some (kept x)
        let written : RawLine → BookingLine → Prop := fun l m =>
          m.direction.wire = l.direction ∧ m.container = optional l.container ∧ m.sizeClass = l.sizeClass
            ∧ m.load.wire = l.load ∧ m.seals = (l.seals.take l.sealCount).map kept ∧ m.hold = l.hold
            ∧ m.primary.val + 1 = l.primary ∧ (m.alternate = none ↔ l.alternate = 0)
            ∧ ∀ x, m.alternate = some x → x.val + 1 = l.alternate
        (bad → b.booking? = none)
        ∧ (¬ bad → ∃ k, b.booking? = some k ∧ k.state = .opened ∧ k.tag = b.tag ∧ k.period = b.period
            ∧ k.plate = optional b.plate ∧ written b.line1 k.line1 ∧ (b.lineCount = 1 → k.line2 = none)
            ∧ (b.lineCount = 2 → ∃ m, k.line2 = some m ∧ written b.line2 m)))
    ∧ (∀ (s : State) (i : Nat) (l : BookingLine),
        (l.direction = .pick → s.insertLine i l = (s, none))
        ∧ (∀ n k, l.direction = .drop → l.container = some n → containerKey n = some k →
          (∀ w, w < 4 → readCell (4 * (k % bucketCount s.store.partition) + w) s.store.index = none →
            (∀ v, v < w → readCell (4 * (k % bucketCount s.store.partition) + v) s.store.index ≠ none) →
            s.insertLine i l = ({ s with store := { s.store with
              index := writeCell (4 * (k % bucketCount s.store.partition) + w) ⟨k, i⟩ s.store.index } }, some true))
          ∧ ((∀ w, w < 4 → readCell (4 * (k % bucketCount s.store.partition) + w) s.store.index ≠ none) →
            s.insertLine i l = (s.count .insertFailures, some false))))

/-- MANAGEMENT_ACCESS_COMPLETE for BOOKING_CANCEL, BOOKING_DELETE and BOOKING_READ: the index test, the tag test, then the
record's state (R54 to R56). CLEAR_COMPLETE and COLD_SWEEP_COMPLETE: the partition set, every record FREE, every entry
empty, every booked count 0 at once; then OK, or the management unit ready for its first request (R58, R59, R44). -/
def Obligations.OtherStoreAccessesComplete : Prop :=
  (∀ (s : State) (tag i : Nat) (g : Option Nat) (record : Option Booking), record = readCell i s.store.bookings →
      let done : Nat → Status → Results → State → Prop := fun k x q t =>
        exec .managementAccessComplete s = .next (State.settle
          (State.answeredWith s.mgmt.queue ⟨tag, k, x, q⟩ { t with store := t.store.release }))
      let refusals : Nat → Prop := fun k =>
        (bookingCapacity s.store.partition ≤ i → done k .badIndex .none s)
        ∧ (i < bookingCapacity s.store.partition →
            (∃ x, g = some x ∧ ∀ b, record = some b → b.tag ≠ x) → done k .notFound .none s)
      let passes : Prop := i < bookingCapacity s.store.partition ∧ ∀ x, g = some x → ∃ b, record = some b ∧ b.tag = x
      (s.store.granted = some (.mgmt (.bookingCancel i g)) → s.mgmt.unit = .accessing tag 15 →
        refusals 15
        ∧ (passes → (∀ b, record = some b → b.state ≠ .opened) → done 15 .wrongState .none s)
        ∧ (passes → ∀ b, record = some b → b.state = .opened → done 15 .ok .none
            { s with
              store := { s.store with bookings := writeCell i { b with state := .cancelled } s.store.bookings }
              ring := s.ring.modWindow b.period (fun w => { w with booked := w.booked - 1 }) }))
      ∧ (s.store.granted = some (.mgmt (.bookingDelete i g)) → s.mgmt.unit = .accessing tag 16 →
        refusals 16
        ∧ (passes → record = none → done 16 .wrongState .none s)
        ∧ (passes → ∀ b, record = some b → ∃ x, done 16 .ok .none
            { s with
              store := { s.store with bookings := clearCell i s.store.bookings, index := x }
              ring := if b.state = .cancelled then s.ring
                      else s.ring.modWindow b.period (fun w => { w with booked := w.booked - 1 }) }
            ∧ (cellsWf s.store.index = true → ∀ e,
                let removed : Prop := ∃ l ∈ b.lines, ∃ k, l.dropKey = some k
                  ∧ e / 4 = k % bucketCount s.store.partition ∧ readCell e s.store.index = some ⟨k, i⟩
                (removed → readCell e x = none) ∧ (¬ removed → readCell e x = readCell e s.store.index))))
      ∧ (s.store.granted = some (.mgmt (.bookingRead i g)) → s.mgmt.unit = .accessing tag 17 →
        refusals 17
        ∧ (passes → record = none → done 17 .ok (.booking none none none) s)
        ∧ (passes → ∀ b, record = some b → ∃ x y, done 17 .ok (.booking (some b) x y) s
            ∧ (∀ p, x = some p ↔ ∃ k, b.line1.dropKey = some k
                ∧ p = [0, 1, 2, 3].any (fun w => decide
                    (readCell (4 * (k % bucketCount s.store.partition) + w) s.store.index = some ⟨k, i⟩)))
            ∧ (∀ p, y = some p ↔ ∃ l k, b.line2 = some l ∧ l.dropKey = some k
                ∧ p = [0, 1, 2, 3].any (fun w => decide
                    (readCell (4 * (k % bucketCount s.store.partition) + w) s.store.index = some ⟨k, i⟩))))))
    ∧ (∀ (s u : State) (g : Nat),
        (∃ slots : Vector (Option Window) 96,
          (∀ i : Fin 96, slots[i] = (s.ring.slots[i]).map (fun w => { w with booked := 0 }))
          ∧ u = { s with
                  store := TableStore.release { s.store with partition := g, bookings := [], index := [] }
                  ring := { s.ring with slots := slots } }) →
        (∀ tag, s.store.granted = some (.mgmt (.clear g)) → s.mgmt.unit = .accessing tag 20 →
          exec .clearComplete s = .next (State.settle
            (State.answeredWith s.mgmt.queue ⟨tag, 20, .ok, .none⟩ u)))
        ∧ (g = 1 → s.store.granted = some (.mgmt .coldSweep) →
          exec .coldSweepComplete s = .next (State.settle { u with mgmt := { s.mgmt with unit := .idle } })))

/-! ### Invariants that every step keeps, and rules of the whole machine -/

/-- The invariants below hold of the machine after reset. -/
def Obligations.ResetIsSound : Prop :=
  State.reset.ring.Sound ∧ State.reset.pacer.Sound ∧ State.reset.WithinBounds
    ∧ (∀ p : Point, (State.reset.point p).Sound) ∧ State.reset.LanesSound ∧ State.reset.BookedCountsRight
    ∧ State.reset.store.Sound ∧ State.reset.VisitsSound ∧ State.reset.StoredFits

/-- Every step keeps the window ring sound (R61, R62, R67, R73), and every yard block: credit within burst × 57,600, and
MDR ≤ ADR ≤ PDR once written (R110, R111). -/
def Obligations.RingAndBlocksStaySound : Prop :=
  ∀ s t : State, step s = .next t → (s.ring.Sound → t.ring.Sound) ∧ (s.pacer.Sound → t.pacer.Sound)

/-- Every step keeps the visit store sound with all that holds visits (VisitsSound): a record stands on the free list,
once, exactly when it is FREE, and no two others carry one number (R1 to R3); a lane's pointer names exactly its
ASSEMBLING visit (R7); the CHECKING visits are those of the check queue and the one under check (R75); each departure
queue holds, once, its lane's visits that closed and have not passed, an AT_BARRIER visit heads it, and the barrier is
RAISING exactly for it (R158, R159); a staged entry is of a STAGED visit, or once released of a RELEASING one, a row is
reserved or occupied for exactly one visit, and the lane-wait list holds exactly the WAITING_IN_LANE visits (R133 to
R135); the report-wait list holds exactly the visits in REPORTING (R174). -/
def Obligations.VisitStoreStaysSound : Prop :=
  ∀ s t : State, s.VisitsSound → step s = .next t → t.VisitsSound

/-- Every step keeps what the part stores of texts and lists within its places, so that every message built of it has its
length (TABLES 1-1, 3-1, 3-2, 6-5; R180, R188). -/
def Obligations.StoredDataKeepsFitting : Prop :=
  ∀ s t : State, s.StoredFits → step s = .next t → t.StoredFits

/-- Every step keeps every bounded collection within its bound (TABLE 0-8) and at most one pending direction for a visit
(R149). And where the visit store is sound, which every step keeps (VisitStoreStaysSound), the collections of visits stay
within its 48 records: the free list, the check queue, the staged queue, the lane-wait list, the report-wait list, and
the departure queues together. -/
def Obligations.CollectionsStayWithinBounds : Prop :=
  (∀ s t : State, s.WithinBounds → step s = .next t → t.WithinBounds)
    ∧ ∀ s : State, s.VisitsSound →
      s.asm.freeList.length ≤ 48 ∧ s.check.queue.length ≤ 48 ∧ s.pacer.staged.length ≤ 48
        ∧ s.pacer.laneWait.length ≤ 48 ∧ s.mgmt.reportWait.length ≤ 48
        ∧ ((List.finRange 12).map (fun l => (s.departures l).length)).sum ≤ 48

/-- Every step keeps every direction point sound (R148), and the lanes and the barriers (R7, R15, R159). -/
def Obligations.PointsAndLanesStaySound : Prop :=
  ∀ s t : State, step s = .next t →
    ((∀ p : Point, (s.point p).Sound) → ∀ p : Point, (t.point p).Sound) ∧ (s.LanesSound → t.LanesSound)

/-- Every step keeps the booked count of every period equal to the number of its OPEN and ARRIVED records (R44). -/
def Obligations.BookedCountsStayRight : Prop :=
  ∀ s t : State, s.BookedCountsRight → step s = .next t → t.BookedCountsRight

/-- Every step keeps the table store sound: every valid index entry stands in its key's bucket and names a record that
is not FREE, one of whose DROP lines has its key (R46, R47). -/
def Obligations.TableStoreStaysSound : Prop :=
  ∀ s t : State, s.store.Sound → step s = .next t → t.store.Sound

/-- What only its own commands change: the tables, the parameters, the straps, the partition, the gate clock, the
arrival period, the parameters and the state of a yard block, and a lane's state. -/
def Obligations.SettingsChangeOnlyByTheirCommands : Prop :=
  ∀ (c : Instr) (s t : State), exec c s = .next t → (∀ u h, c ≠ .coldReset u h) →
    (c ≠ .stationWrite → t.intake.stations = s.intake.stations)
    ∧ (c ≠ .codeWrite → t.intake.codes = s.intake.codes)
    ∧ (c ≠ .watchWrite → t.watch = s.watch)
    ∧ (c ≠ .paramWrite → t.mgmt.params = s.mgmt.params ∧ t.mgmt.mask = s.mgmt.mask)
    ∧ t.mgmt.unitAddr = s.mgmt.unitAddr ∧ t.mgmt.typeHigh = s.mgmt.typeHigh
    ∧ (c ≠ .clearComplete → c ≠ .coldSweepComplete → t.store.partition = s.store.partition)
    ∧ (c ≠ .secondEvent → c ≠ .timeSet → t.mgmt.clock = s.mgmt.clock ∧ t.ring.arrival = s.ring.arrival)
    ∧ (∀ b : BlockNo,
        (c ≠ .blockWrite → c ≠ .blockTune → (t.block b).params = (s.block b).params)
        ∧ (c ≠ .blockWrite → (t.block b).written = (s.block b).written)
        ∧ (c ≠ .blockWrite → c ≠ .blockDisable → (t.block b).active = (s.block b).active))
    ∧ (∀ l : Lane, c ≠ .laneOpen → c ≠ .laneStop → c ≠ .warmReset → (t.lane l).state = (s.lane l).state)

/-- A request that is refused when it is taken changes nothing but the request queue, the management unit and the ports that
carry its answer, and its response has no results (R166, section 11.4). The refusals of the requests that use the table
store, answered when their access completes, are in BookingWritesComplete and OtherStoreAccessesComplete. That the
response's kind is the body's first byte, 0 for an empty body, is the model's choice (log entry 13). -/
def Obligations.RefusedRequestsChangeNothing : Prop :=
  ∀ (c : Instr) (s t : State) (r : Response), s.mgmt.unit = .idle → (∀ q, ¬ s.hasResponse q) → exec c s = .next t →
    t.hasResponse r → r.status.refuses = true →
    ∃ body rest, s.mgmt.queue = ⟨r.tag, body⟩ :: rest ∧ r.kind = byteAt body 0 ∧ r.results = .none
      ∧ t = State.settle (State.answeredWith rest r s)
end

