-- ==== Sys2Proof/Laws/Loops.lean ====
section
/-! SUPPORT. The inductions over the part's loops, made once: what every turn of a loop keeps, the loop keeps. -/

namespace Sys2Proof.Machine

open Sys2Proof

/-- An operation made for every place keeps what it keeps at each. -/
theorem forEach_keeps {P : State → Prop} {n : Nat} {f : Fin n → State → State} (h : ∀ i s, P s → P (f i s)) {s : State}
    (hs : P s) : P (forEach n f s) := by
  unfold forEach
  generalize List.finRange n = q
  induction q generalizing s with
  | nil => exact hs
  | cons i q ih => exact ih (h i s hs)

/-- The test of R151 at a point keeps what a sending, a retirement and a hand-on keep. -/
theorem State.servePoint_keeps {P : State → Prop} {hand : HandOn} {p : Point}
    (sendUrgent : ∀ s d st, P s → P ((s.showUrgent p d).sendFrom p st d true))
    (retireUrgent : ∀ s d, P s → P ((s.urgentLeaves p).unconfirmed d))
    (sendHead : ∀ s d st, P s → P ((s.showHead p).sendFrom p st d false))
    (retireHead : ∀ s d, P s → P (hand p d ((s.headLeaves p).unconfirmed d))) (k : Nat) {s : State} (hs : P s) :
    P (State.servePoint hand p k s) := by
  induction k generalizing s with
  | zero => exact hs
  | succ k ih =>
    unfold State.servePoint
    split
    · exact hs
    · split
      · split
        · exact sendUrgent _ _ _ hs
        · exact ih (retireUrgent _ _ hs)
      · split
        · exact sendHead _ _ _ hs
        · exact ih (retireHead _ _ hs)
      · exact hs

/-- Promotion keeps what taking an entry off the list and sending its visit to a row keep (R142). -/
theorem State.promote_keeps {P : State → Prop} (take : ∀ s q, P s → P (s.setLaneWait q))
    (send : ∀ s row r, P s → P (s.promoteTo row r)) (k : Nat) {s : State} (hs : P s) : P (State.promote k s) := by
  induction k generalizing s with
  | zero => exact hs
  | succ k ih =>
    unfold State.promote
    split
    · simp only
      split
      · exact ih (send _ _ _ (take _ _ hs))
      · exact ih (take _ _ hs)
    · exact hs

/-- The staged part of release service keeps what a debit with a release keeps (R137). -/
theorem State.serveStaged_keeps {P : State → Prop} {b : BlockNo}
    (release : ∀ s e, P s → s.canDebit b = true → P ((s.debit b).releaseStaged e b)) (k : Nat) {s : State} (hs : P s) :
    P (State.serveStaged b k s) := by
  induction k generalizing s with
  | zero => exact hs
  | succ k ih =>
    unfold State.serveStaged
    split
    · split
      · exact ih (release _ _ hs ‹_›)
      · exact hs
    · exact hs

/-- The lane-wait part of release service keeps what a release keeps (R138). -/
theorem State.serveLaneWait_keeps {P : State → Prop} {b : BlockNo}
    (release : ∀ s e, P s → s.canDebit b = true → P (s.releaseLaneWaiting e b)) (k : Nat) {s : State} (hs : P s) :
    P (State.serveLaneWait b k s) := by
  induction k generalizing s with
  | zero => exact hs
  | succ k ih =>
    unfold State.serveLaneWait
    split
    · split
      · exact ih (release _ _ hs ‹_›)
      · exact hs
    · exact hs

/-- The staging-limit work keeps what its first part and each tested entry keep (R139, R140). -/
theorem State.stagingWork_keeps {P : State → Prop} (wait : ∀ s, P s → P s.waitStaged)
    (alternate : ∀ s n, P s → P (s.serveAlternate n)) {s : State} (hs : P s) : P s.stagingWork := by
  unfold State.stagingWork
  simp only
  generalize s.waitStaged.pacer.staged.map StagedEntry.visit = q
  have h := wait s hs
  generalize s.waitStaged = t at h
  induction q generalizing t with
  | nil => exact h
  | cons n q ih => exact ih _ (alternate _ _ h)

end Sys2Proof.Machine
end

