-- ==== Sys2Proof/Laws/State.lean ====
section
/-! SUPPORT. What each named update of the state leaves as it was: one lemma for each field, true by unfolding, so that no
proof unfolds a record update. -/

namespace Sys2Proof.Machine

open Sys2Proof

/-! ### modVisit -/

@[simp] theorem State.modVisit_ports (r : RecNo) (f : Visit → Visit) (s : State) : (s.modVisit r f).ports = s.ports := rfl
@[simp] theorem State.modVisit_intake (r : RecNo) (f : Visit → Visit) (s : State) : (s.modVisit r f).intake = s.intake := rfl
@[simp] theorem State.modVisit_watch (r : RecNo) (f : Visit → Visit) (s : State) : (s.modVisit r f).watch = s.watch := rfl
@[simp] theorem State.modVisit_check (r : RecNo) (f : Visit → Visit) (s : State) : (s.modVisit r f).check = s.check := rfl
@[simp] theorem State.modVisit_store (r : RecNo) (f : Visit → Visit) (s : State) : (s.modVisit r f).store = s.store := rfl
@[simp] theorem State.modVisit_ring (r : RecNo) (f : Visit → Visit) (s : State) : (s.modVisit r f).ring = s.ring := rfl
@[simp] theorem State.modVisit_pacer (r : RecNo) (f : Visit → Visit) (s : State) : (s.modVisit r f).pacer = s.pacer := rfl
@[simp] theorem State.modVisit_engine (r : RecNo) (f : Visit → Visit) (s : State) : (s.modVisit r f).engine = s.engine := rfl
@[simp] theorem State.modVisit_mgmt (r : RecNo) (f : Visit → Visit) (s : State) : (s.modVisit r f).mgmt = s.mgmt := rfl
@[simp] theorem State.modVisit_pending (r : RecNo) (f : Visit → Visit) (s : State) : (s.modVisit r f).pending = s.pending := rfl
@[simp] theorem State.modVisit_asm_freeList (r : RecNo) (f : Visit → Visit) (s : State) : (s.modVisit r f).asm.freeList = s.asm.freeList := rfl
@[simp] theorem State.modVisit_asm_nextNumber (r : RecNo) (f : Visit → Visit) (s : State) : (s.modVisit r f).asm.nextNumber = s.asm.nextNumber := rfl
@[simp] theorem State.modVisit_asm_lanes (r : RecNo) (f : Visit → Visit) (s : State) : (s.modVisit r f).asm.lanes = s.asm.lanes := rfl
@[simp] theorem State.modVisit_lane (r : RecNo) (f : Visit → Visit) (s : State) (i : Lane) : (s.modVisit r f).lane i = s.lane i := rfl
@[simp] theorem State.modVisit_point (r : RecNo) (f : Visit → Visit) (s : State) (i : Point) : (s.modVisit r f).point i = s.point i := rfl
@[simp] theorem State.modVisit_barrier (r : RecNo) (f : Visit → Visit) (s : State) (i : Lane) : (s.modVisit r f).barrier i = s.barrier i := rfl
@[simp] theorem State.modVisit_departures (r : RecNo) (f : Visit → Visit) (s : State) (i : Lane) : (s.modVisit r f).departures i = s.departures i := rfl
@[simp] theorem State.modVisit_block (r : RecNo) (f : Visit → Visit) (s : State) (i : BlockNo) : (s.modVisit r f).block i = s.block i := rfl
@[simp] theorem State.modVisit_rowState (r : RecNo) (f : Visit → Visit) (s : State) (i : RowNo) : (s.modVisit r f).rowState i = s.rowState i := rfl

/-! ### modLane -/

@[simp] theorem State.modLane_ports (l : Lane) (f : LaneRecord → LaneRecord) (s : State) : (s.modLane l f).ports = s.ports := rfl
@[simp] theorem State.modLane_intake (l : Lane) (f : LaneRecord → LaneRecord) (s : State) : (s.modLane l f).intake = s.intake := rfl
@[simp] theorem State.modLane_watch (l : Lane) (f : LaneRecord → LaneRecord) (s : State) : (s.modLane l f).watch = s.watch := rfl
@[simp] theorem State.modLane_check (l : Lane) (f : LaneRecord → LaneRecord) (s : State) : (s.modLane l f).check = s.check := rfl
@[simp] theorem State.modLane_store (l : Lane) (f : LaneRecord → LaneRecord) (s : State) : (s.modLane l f).store = s.store := rfl
@[simp] theorem State.modLane_ring (l : Lane) (f : LaneRecord → LaneRecord) (s : State) : (s.modLane l f).ring = s.ring := rfl
@[simp] theorem State.modLane_pacer (l : Lane) (f : LaneRecord → LaneRecord) (s : State) : (s.modLane l f).pacer = s.pacer := rfl
@[simp] theorem State.modLane_engine (l : Lane) (f : LaneRecord → LaneRecord) (s : State) : (s.modLane l f).engine = s.engine := rfl
@[simp] theorem State.modLane_mgmt (l : Lane) (f : LaneRecord → LaneRecord) (s : State) : (s.modLane l f).mgmt = s.mgmt := rfl
@[simp] theorem State.modLane_pending (l : Lane) (f : LaneRecord → LaneRecord) (s : State) : (s.modLane l f).pending = s.pending := rfl
@[simp] theorem State.modLane_asm_visits (l : Lane) (f : LaneRecord → LaneRecord) (s : State) : (s.modLane l f).asm.visits = s.asm.visits := rfl
@[simp] theorem State.modLane_asm_freeList (l : Lane) (f : LaneRecord → LaneRecord) (s : State) : (s.modLane l f).asm.freeList = s.asm.freeList := rfl
@[simp] theorem State.modLane_asm_nextNumber (l : Lane) (f : LaneRecord → LaneRecord) (s : State) : (s.modLane l f).asm.nextNumber = s.asm.nextNumber := rfl
@[simp] theorem State.modLane_visit (l : Lane) (f : LaneRecord → LaneRecord) (s : State) (i : RecNo) : (s.modLane l f).visit i = s.visit i := rfl
@[simp] theorem State.modLane_point (l : Lane) (f : LaneRecord → LaneRecord) (s : State) (i : Point) : (s.modLane l f).point i = s.point i := rfl
@[simp] theorem State.modLane_barrier (l : Lane) (f : LaneRecord → LaneRecord) (s : State) (i : Lane) : (s.modLane l f).barrier i = s.barrier i := rfl
@[simp] theorem State.modLane_departures (l : Lane) (f : LaneRecord → LaneRecord) (s : State) (i : Lane) : (s.modLane l f).departures i = s.departures i := rfl
@[simp] theorem State.modLane_block (l : Lane) (f : LaneRecord → LaneRecord) (s : State) (i : BlockNo) : (s.modLane l f).block i = s.block i := rfl
@[simp] theorem State.modLane_rowState (l : Lane) (f : LaneRecord → LaneRecord) (s : State) (i : RowNo) : (s.modLane l f).rowState i = s.rowState i := rfl

/-! ### modPoint -/

@[simp] theorem State.modPoint_ports (p : Point) (f : PointState → PointState) (s : State) : (s.modPoint p f).ports = s.ports := rfl
@[simp] theorem State.modPoint_intake (p : Point) (f : PointState → PointState) (s : State) : (s.modPoint p f).intake = s.intake := rfl
@[simp] theorem State.modPoint_asm (p : Point) (f : PointState → PointState) (s : State) : (s.modPoint p f).asm = s.asm := rfl
@[simp] theorem State.modPoint_watch (p : Point) (f : PointState → PointState) (s : State) : (s.modPoint p f).watch = s.watch := rfl
@[simp] theorem State.modPoint_check (p : Point) (f : PointState → PointState) (s : State) : (s.modPoint p f).check = s.check := rfl
@[simp] theorem State.modPoint_store (p : Point) (f : PointState → PointState) (s : State) : (s.modPoint p f).store = s.store := rfl
@[simp] theorem State.modPoint_ring (p : Point) (f : PointState → PointState) (s : State) : (s.modPoint p f).ring = s.ring := rfl
@[simp] theorem State.modPoint_pacer (p : Point) (f : PointState → PointState) (s : State) : (s.modPoint p f).pacer = s.pacer := rfl
@[simp] theorem State.modPoint_mgmt (p : Point) (f : PointState → PointState) (s : State) : (s.modPoint p f).mgmt = s.mgmt := rfl
@[simp] theorem State.modPoint_pending (p : Point) (f : PointState → PointState) (s : State) : (s.modPoint p f).pending = s.pending := rfl
@[simp] theorem State.modPoint_engine_barriers (p : Point) (f : PointState → PointState) (s : State) : (s.modPoint p f).engine.barriers = s.engine.barriers := rfl
@[simp] theorem State.modPoint_engine_departures (p : Point) (f : PointState → PointState) (s : State) : (s.modPoint p f).engine.departures = s.engine.departures := rfl
@[simp] theorem State.modPoint_engine_pendings (p : Point) (f : PointState → PointState) (s : State) : (s.modPoint p f).engine.pendings = s.engine.pendings := rfl
@[simp] theorem State.modPoint_visit (p : Point) (f : PointState → PointState) (s : State) (i : RecNo) : (s.modPoint p f).visit i = s.visit i := rfl
@[simp] theorem State.modPoint_lane (p : Point) (f : PointState → PointState) (s : State) (i : Lane) : (s.modPoint p f).lane i = s.lane i := rfl
@[simp] theorem State.modPoint_barrier (p : Point) (f : PointState → PointState) (s : State) (i : Lane) : (s.modPoint p f).barrier i = s.barrier i := rfl
@[simp] theorem State.modPoint_departures (p : Point) (f : PointState → PointState) (s : State) (i : Lane) : (s.modPoint p f).departures i = s.departures i := rfl
@[simp] theorem State.modPoint_block (p : Point) (f : PointState → PointState) (s : State) (i : BlockNo) : (s.modPoint p f).block i = s.block i := rfl
@[simp] theorem State.modPoint_rowState (p : Point) (f : PointState → PointState) (s : State) (i : RowNo) : (s.modPoint p f).rowState i = s.rowState i := rfl

/-! ### modBarrier -/

@[simp] theorem State.modBarrier_ports (l : Lane) (f : Barrier → Barrier) (s : State) : (s.modBarrier l f).ports = s.ports := rfl
@[simp] theorem State.modBarrier_intake (l : Lane) (f : Barrier → Barrier) (s : State) : (s.modBarrier l f).intake = s.intake := rfl
@[simp] theorem State.modBarrier_asm (l : Lane) (f : Barrier → Barrier) (s : State) : (s.modBarrier l f).asm = s.asm := rfl
@[simp] theorem State.modBarrier_watch (l : Lane) (f : Barrier → Barrier) (s : State) : (s.modBarrier l f).watch = s.watch := rfl
@[simp] theorem State.modBarrier_check (l : Lane) (f : Barrier → Barrier) (s : State) : (s.modBarrier l f).check = s.check := rfl
@[simp] theorem State.modBarrier_store (l : Lane) (f : Barrier → Barrier) (s : State) : (s.modBarrier l f).store = s.store := rfl
@[simp] theorem State.modBarrier_ring (l : Lane) (f : Barrier → Barrier) (s : State) : (s.modBarrier l f).ring = s.ring := rfl
@[simp] theorem State.modBarrier_pacer (l : Lane) (f : Barrier → Barrier) (s : State) : (s.modBarrier l f).pacer = s.pacer := rfl
@[simp] theorem State.modBarrier_mgmt (l : Lane) (f : Barrier → Barrier) (s : State) : (s.modBarrier l f).mgmt = s.mgmt := rfl
@[simp] theorem State.modBarrier_pending (l : Lane) (f : Barrier → Barrier) (s : State) : (s.modBarrier l f).pending = s.pending := rfl
@[simp] theorem State.modBarrier_engine_points (l : Lane) (f : Barrier → Barrier) (s : State) : (s.modBarrier l f).engine.points = s.engine.points := rfl
@[simp] theorem State.modBarrier_engine_departures (l : Lane) (f : Barrier → Barrier) (s : State) : (s.modBarrier l f).engine.departures = s.engine.departures := rfl
@[simp] theorem State.modBarrier_engine_pendings (l : Lane) (f : Barrier → Barrier) (s : State) : (s.modBarrier l f).engine.pendings = s.engine.pendings := rfl
@[simp] theorem State.modBarrier_visit (l : Lane) (f : Barrier → Barrier) (s : State) (i : RecNo) : (s.modBarrier l f).visit i = s.visit i := rfl
@[simp] theorem State.modBarrier_lane (l : Lane) (f : Barrier → Barrier) (s : State) (i : Lane) : (s.modBarrier l f).lane i = s.lane i := rfl
@[simp] theorem State.modBarrier_point (l : Lane) (f : Barrier → Barrier) (s : State) (i : Point) : (s.modBarrier l f).point i = s.point i := rfl
@[simp] theorem State.modBarrier_departures (l : Lane) (f : Barrier → Barrier) (s : State) (i : Lane) : (s.modBarrier l f).departures i = s.departures i := rfl
@[simp] theorem State.modBarrier_block (l : Lane) (f : Barrier → Barrier) (s : State) (i : BlockNo) : (s.modBarrier l f).block i = s.block i := rfl
@[simp] theorem State.modBarrier_rowState (l : Lane) (f : Barrier → Barrier) (s : State) (i : RowNo) : (s.modBarrier l f).rowState i = s.rowState i := rfl

/-! ### modDepartures -/

@[simp] theorem State.modDepartures_ports (l : Lane) (f : List Departure → List Departure) (s : State) : (s.modDepartures l f).ports = s.ports := rfl
@[simp] theorem State.modDepartures_intake (l : Lane) (f : List Departure → List Departure) (s : State) : (s.modDepartures l f).intake = s.intake := rfl
@[simp] theorem State.modDepartures_asm (l : Lane) (f : List Departure → List Departure) (s : State) : (s.modDepartures l f).asm = s.asm := rfl
@[simp] theorem State.modDepartures_watch (l : Lane) (f : List Departure → List Departure) (s : State) : (s.modDepartures l f).watch = s.watch := rfl
@[simp] theorem State.modDepartures_check (l : Lane) (f : List Departure → List Departure) (s : State) : (s.modDepartures l f).check = s.check := rfl
@[simp] theorem State.modDepartures_store (l : Lane) (f : List Departure → List Departure) (s : State) : (s.modDepartures l f).store = s.store := rfl
@[simp] theorem State.modDepartures_ring (l : Lane) (f : List Departure → List Departure) (s : State) : (s.modDepartures l f).ring = s.ring := rfl
@[simp] theorem State.modDepartures_pacer (l : Lane) (f : List Departure → List Departure) (s : State) : (s.modDepartures l f).pacer = s.pacer := rfl
@[simp] theorem State.modDepartures_mgmt (l : Lane) (f : List Departure → List Departure) (s : State) : (s.modDepartures l f).mgmt = s.mgmt := rfl
@[simp] theorem State.modDepartures_pending (l : Lane) (f : List Departure → List Departure) (s : State) : (s.modDepartures l f).pending = s.pending := rfl
@[simp] theorem State.modDepartures_engine_points (l : Lane) (f : List Departure → List Departure) (s : State) : (s.modDepartures l f).engine.points = s.engine.points := rfl
@[simp] theorem State.modDepartures_engine_barriers (l : Lane) (f : List Departure → List Departure) (s : State) : (s.modDepartures l f).engine.barriers = s.engine.barriers := rfl
@[simp] theorem State.modDepartures_engine_pendings (l : Lane) (f : List Departure → List Departure) (s : State) : (s.modDepartures l f).engine.pendings = s.engine.pendings := rfl
@[simp] theorem State.modDepartures_visit (l : Lane) (f : List Departure → List Departure) (s : State) (i : RecNo) : (s.modDepartures l f).visit i = s.visit i := rfl
@[simp] theorem State.modDepartures_lane (l : Lane) (f : List Departure → List Departure) (s : State) (i : Lane) : (s.modDepartures l f).lane i = s.lane i := rfl
@[simp] theorem State.modDepartures_point (l : Lane) (f : List Departure → List Departure) (s : State) (i : Point) : (s.modDepartures l f).point i = s.point i := rfl
@[simp] theorem State.modDepartures_barrier (l : Lane) (f : List Departure → List Departure) (s : State) (i : Lane) : (s.modDepartures l f).barrier i = s.barrier i := rfl
@[simp] theorem State.modDepartures_block (l : Lane) (f : List Departure → List Departure) (s : State) (i : BlockNo) : (s.modDepartures l f).block i = s.block i := rfl
@[simp] theorem State.modDepartures_rowState (l : Lane) (f : List Departure → List Departure) (s : State) (i : RowNo) : (s.modDepartures l f).rowState i = s.rowState i := rfl

/-! ### setPendings -/

@[simp] theorem State.setPendings_ports (q : List PendingDirection) (s : State) : (s.setPendings q).ports = s.ports := rfl
@[simp] theorem State.setPendings_intake (q : List PendingDirection) (s : State) : (s.setPendings q).intake = s.intake := rfl
@[simp] theorem State.setPendings_asm (q : List PendingDirection) (s : State) : (s.setPendings q).asm = s.asm := rfl
@[simp] theorem State.setPendings_watch (q : List PendingDirection) (s : State) : (s.setPendings q).watch = s.watch := rfl
@[simp] theorem State.setPendings_check (q : List PendingDirection) (s : State) : (s.setPendings q).check = s.check := rfl
@[simp] theorem State.setPendings_store (q : List PendingDirection) (s : State) : (s.setPendings q).store = s.store := rfl
@[simp] theorem State.setPendings_ring (q : List PendingDirection) (s : State) : (s.setPendings q).ring = s.ring := rfl
@[simp] theorem State.setPendings_pacer (q : List PendingDirection) (s : State) : (s.setPendings q).pacer = s.pacer := rfl
@[simp] theorem State.setPendings_mgmt (q : List PendingDirection) (s : State) : (s.setPendings q).mgmt = s.mgmt := rfl
@[simp] theorem State.setPendings_pending (q : List PendingDirection) (s : State) : (s.setPendings q).pending = s.pending := rfl
@[simp] theorem State.setPendings_engine_pendings (q : List PendingDirection) (s : State) : (s.setPendings q).engine.pendings = q := rfl
@[simp] theorem State.setPendings_engine_points (q : List PendingDirection) (s : State) : (s.setPendings q).engine.points = s.engine.points := rfl
@[simp] theorem State.setPendings_engine_barriers (q : List PendingDirection) (s : State) : (s.setPendings q).engine.barriers = s.engine.barriers := rfl
@[simp] theorem State.setPendings_engine_departures (q : List PendingDirection) (s : State) : (s.setPendings q).engine.departures = s.engine.departures := rfl
@[simp] theorem State.setPendings_visit (q : List PendingDirection) (s : State) (i : RecNo) : (s.setPendings q).visit i = s.visit i := rfl
@[simp] theorem State.setPendings_lane (q : List PendingDirection) (s : State) (i : Lane) : (s.setPendings q).lane i = s.lane i := rfl
@[simp] theorem State.setPendings_point (q : List PendingDirection) (s : State) (i : Point) : (s.setPendings q).point i = s.point i := rfl
@[simp] theorem State.setPendings_barrier (q : List PendingDirection) (s : State) (i : Lane) : (s.setPendings q).barrier i = s.barrier i := rfl
@[simp] theorem State.setPendings_departures (q : List PendingDirection) (s : State) (i : Lane) : (s.setPendings q).departures i = s.departures i := rfl
@[simp] theorem State.setPendings_block (q : List PendingDirection) (s : State) (i : BlockNo) : (s.setPendings q).block i = s.block i := rfl
@[simp] theorem State.setPendings_rowState (q : List PendingDirection) (s : State) (i : RowNo) : (s.setPendings q).rowState i = s.rowState i := rfl

/-! ### modBlock -/

@[simp] theorem State.modBlock_ports (b : BlockNo) (f : YardBlock → YardBlock) (s : State) : (s.modBlock b f).ports = s.ports := rfl
@[simp] theorem State.modBlock_intake (b : BlockNo) (f : YardBlock → YardBlock) (s : State) : (s.modBlock b f).intake = s.intake := rfl
@[simp] theorem State.modBlock_asm (b : BlockNo) (f : YardBlock → YardBlock) (s : State) : (s.modBlock b f).asm = s.asm := rfl
@[simp] theorem State.modBlock_watch (b : BlockNo) (f : YardBlock → YardBlock) (s : State) : (s.modBlock b f).watch = s.watch := rfl
@[simp] theorem State.modBlock_check (b : BlockNo) (f : YardBlock → YardBlock) (s : State) : (s.modBlock b f).check = s.check := rfl
@[simp] theorem State.modBlock_store (b : BlockNo) (f : YardBlock → YardBlock) (s : State) : (s.modBlock b f).store = s.store := rfl
@[simp] theorem State.modBlock_ring (b : BlockNo) (f : YardBlock → YardBlock) (s : State) : (s.modBlock b f).ring = s.ring := rfl
@[simp] theorem State.modBlock_engine (b : BlockNo) (f : YardBlock → YardBlock) (s : State) : (s.modBlock b f).engine = s.engine := rfl
@[simp] theorem State.modBlock_mgmt (b : BlockNo) (f : YardBlock → YardBlock) (s : State) : (s.modBlock b f).mgmt = s.mgmt := rfl
@[simp] theorem State.modBlock_pending (b : BlockNo) (f : YardBlock → YardBlock) (s : State) : (s.modBlock b f).pending = s.pending := rfl
@[simp] theorem State.modBlock_pacer_staged (b : BlockNo) (f : YardBlock → YardBlock) (s : State) : (s.modBlock b f).pacer.staged = s.pacer.staged := rfl
@[simp] theorem State.modBlock_pacer_rows (b : BlockNo) (f : YardBlock → YardBlock) (s : State) : (s.modBlock b f).pacer.rows = s.pacer.rows := rfl
@[simp] theorem State.modBlock_pacer_laneWait (b : BlockNo) (f : YardBlock → YardBlock) (s : State) : (s.modBlock b f).pacer.laneWait = s.pacer.laneWait := rfl
@[simp] theorem State.modBlock_visit (b : BlockNo) (f : YardBlock → YardBlock) (s : State) (i : RecNo) : (s.modBlock b f).visit i = s.visit i := rfl
@[simp] theorem State.modBlock_lane (b : BlockNo) (f : YardBlock → YardBlock) (s : State) (i : Lane) : (s.modBlock b f).lane i = s.lane i := rfl
@[simp] theorem State.modBlock_point (b : BlockNo) (f : YardBlock → YardBlock) (s : State) (i : Point) : (s.modBlock b f).point i = s.point i := rfl
@[simp] theorem State.modBlock_barrier (b : BlockNo) (f : YardBlock → YardBlock) (s : State) (i : Lane) : (s.modBlock b f).barrier i = s.barrier i := rfl
@[simp] theorem State.modBlock_departures (b : BlockNo) (f : YardBlock → YardBlock) (s : State) (i : Lane) : (s.modBlock b f).departures i = s.departures i := rfl
@[simp] theorem State.modBlock_rowState (b : BlockNo) (f : YardBlock → YardBlock) (s : State) (i : RowNo) : (s.modBlock b f).rowState i = s.rowState i := rfl

/-! ### setRow -/

@[simp] theorem State.setRow_ports (r : RowNo) (x : RowState) (s : State) : (s.setRow r x).ports = s.ports := rfl
@[simp] theorem State.setRow_intake (r : RowNo) (x : RowState) (s : State) : (s.setRow r x).intake = s.intake := rfl
@[simp] theorem State.setRow_asm (r : RowNo) (x : RowState) (s : State) : (s.setRow r x).asm = s.asm := rfl
@[simp] theorem State.setRow_watch (r : RowNo) (x : RowState) (s : State) : (s.setRow r x).watch = s.watch := rfl
@[simp] theorem State.setRow_check (r : RowNo) (x : RowState) (s : State) : (s.setRow r x).check = s.check := rfl
@[simp] theorem State.setRow_store (r : RowNo) (x : RowState) (s : State) : (s.setRow r x).store = s.store := rfl
@[simp] theorem State.setRow_ring (r : RowNo) (x : RowState) (s : State) : (s.setRow r x).ring = s.ring := rfl
@[simp] theorem State.setRow_engine (r : RowNo) (x : RowState) (s : State) : (s.setRow r x).engine = s.engine := rfl
@[simp] theorem State.setRow_mgmt (r : RowNo) (x : RowState) (s : State) : (s.setRow r x).mgmt = s.mgmt := rfl
@[simp] theorem State.setRow_pending (r : RowNo) (x : RowState) (s : State) : (s.setRow r x).pending = s.pending := rfl
@[simp] theorem State.setRow_pacer_blocks (r : RowNo) (x : RowState) (s : State) : (s.setRow r x).pacer.blocks = s.pacer.blocks := rfl
@[simp] theorem State.setRow_pacer_staged (r : RowNo) (x : RowState) (s : State) : (s.setRow r x).pacer.staged = s.pacer.staged := rfl
@[simp] theorem State.setRow_pacer_laneWait (r : RowNo) (x : RowState) (s : State) : (s.setRow r x).pacer.laneWait = s.pacer.laneWait := rfl
@[simp] theorem State.setRow_visit (r : RowNo) (x : RowState) (s : State) (i : RecNo) : (s.setRow r x).visit i = s.visit i := rfl
@[simp] theorem State.setRow_lane (r : RowNo) (x : RowState) (s : State) (i : Lane) : (s.setRow r x).lane i = s.lane i := rfl
@[simp] theorem State.setRow_point (r : RowNo) (x : RowState) (s : State) (i : Point) : (s.setRow r x).point i = s.point i := rfl
@[simp] theorem State.setRow_barrier (r : RowNo) (x : RowState) (s : State) (i : Lane) : (s.setRow r x).barrier i = s.barrier i := rfl
@[simp] theorem State.setRow_departures (r : RowNo) (x : RowState) (s : State) (i : Lane) : (s.setRow r x).departures i = s.departures i := rfl
@[simp] theorem State.setRow_block (r : RowNo) (x : RowState) (s : State) (i : BlockNo) : (s.setRow r x).block i = s.block i := rfl

/-! ### setStaged -/

@[simp] theorem State.setStaged_ports (q : List StagedEntry) (s : State) : (s.setStaged q).ports = s.ports := rfl
@[simp] theorem State.setStaged_intake (q : List StagedEntry) (s : State) : (s.setStaged q).intake = s.intake := rfl
@[simp] theorem State.setStaged_asm (q : List StagedEntry) (s : State) : (s.setStaged q).asm = s.asm := rfl
@[simp] theorem State.setStaged_watch (q : List StagedEntry) (s : State) : (s.setStaged q).watch = s.watch := rfl
@[simp] theorem State.setStaged_check (q : List StagedEntry) (s : State) : (s.setStaged q).check = s.check := rfl
@[simp] theorem State.setStaged_store (q : List StagedEntry) (s : State) : (s.setStaged q).store = s.store := rfl
@[simp] theorem State.setStaged_ring (q : List StagedEntry) (s : State) : (s.setStaged q).ring = s.ring := rfl
@[simp] theorem State.setStaged_engine (q : List StagedEntry) (s : State) : (s.setStaged q).engine = s.engine := rfl
@[simp] theorem State.setStaged_mgmt (q : List StagedEntry) (s : State) : (s.setStaged q).mgmt = s.mgmt := rfl
@[simp] theorem State.setStaged_pending (q : List StagedEntry) (s : State) : (s.setStaged q).pending = s.pending := rfl
@[simp] theorem State.setStaged_pacer_staged (q : List StagedEntry) (s : State) : (s.setStaged q).pacer.staged = q := rfl
@[simp] theorem State.setStaged_pacer_blocks (q : List StagedEntry) (s : State) : (s.setStaged q).pacer.blocks = s.pacer.blocks := rfl
@[simp] theorem State.setStaged_pacer_rows (q : List StagedEntry) (s : State) : (s.setStaged q).pacer.rows = s.pacer.rows := rfl
@[simp] theorem State.setStaged_pacer_laneWait (q : List StagedEntry) (s : State) : (s.setStaged q).pacer.laneWait = s.pacer.laneWait := rfl
@[simp] theorem State.setStaged_visit (q : List StagedEntry) (s : State) (i : RecNo) : (s.setStaged q).visit i = s.visit i := rfl
@[simp] theorem State.setStaged_lane (q : List StagedEntry) (s : State) (i : Lane) : (s.setStaged q).lane i = s.lane i := rfl
@[simp] theorem State.setStaged_point (q : List StagedEntry) (s : State) (i : Point) : (s.setStaged q).point i = s.point i := rfl
@[simp] theorem State.setStaged_barrier (q : List StagedEntry) (s : State) (i : Lane) : (s.setStaged q).barrier i = s.barrier i := rfl
@[simp] theorem State.setStaged_departures (q : List StagedEntry) (s : State) (i : Lane) : (s.setStaged q).departures i = s.departures i := rfl
@[simp] theorem State.setStaged_block (q : List StagedEntry) (s : State) (i : BlockNo) : (s.setStaged q).block i = s.block i := rfl
@[simp] theorem State.setStaged_rowState (q : List StagedEntry) (s : State) (i : RowNo) : (s.setStaged q).rowState i = s.rowState i := rfl

/-! ### setLaneWait -/

@[simp] theorem State.setLaneWait_ports (q : List LaneWaitEntry) (s : State) : (s.setLaneWait q).ports = s.ports := rfl
@[simp] theorem State.setLaneWait_intake (q : List LaneWaitEntry) (s : State) : (s.setLaneWait q).intake = s.intake := rfl
@[simp] theorem State.setLaneWait_asm (q : List LaneWaitEntry) (s : State) : (s.setLaneWait q).asm = s.asm := rfl
@[simp] theorem State.setLaneWait_watch (q : List LaneWaitEntry) (s : State) : (s.setLaneWait q).watch = s.watch := rfl
@[simp] theorem State.setLaneWait_check (q : List LaneWaitEntry) (s : State) : (s.setLaneWait q).check = s.check := rfl
@[simp] theorem State.setLaneWait_store (q : List LaneWaitEntry) (s : State) : (s.setLaneWait q).store = s.store := rfl
@[simp] theorem State.setLaneWait_ring (q : List LaneWaitEntry) (s : State) : (s.setLaneWait q).ring = s.ring := rfl
@[simp] theorem State.setLaneWait_engine (q : List LaneWaitEntry) (s : State) : (s.setLaneWait q).engine = s.engine := rfl
@[simp] theorem State.setLaneWait_mgmt (q : List LaneWaitEntry) (s : State) : (s.setLaneWait q).mgmt = s.mgmt := rfl
@[simp] theorem State.setLaneWait_pending (q : List LaneWaitEntry) (s : State) : (s.setLaneWait q).pending = s.pending := rfl
@[simp] theorem State.setLaneWait_pacer_laneWait (q : List LaneWaitEntry) (s : State) : (s.setLaneWait q).pacer.laneWait = q := rfl
@[simp] theorem State.setLaneWait_pacer_blocks (q : List LaneWaitEntry) (s : State) : (s.setLaneWait q).pacer.blocks = s.pacer.blocks := rfl
@[simp] theorem State.setLaneWait_pacer_staged (q : List LaneWaitEntry) (s : State) : (s.setLaneWait q).pacer.staged = s.pacer.staged := rfl
@[simp] theorem State.setLaneWait_pacer_rows (q : List LaneWaitEntry) (s : State) : (s.setLaneWait q).pacer.rows = s.pacer.rows := rfl
@[simp] theorem State.setLaneWait_visit (q : List LaneWaitEntry) (s : State) (i : RecNo) : (s.setLaneWait q).visit i = s.visit i := rfl
@[simp] theorem State.setLaneWait_lane (q : List LaneWaitEntry) (s : State) (i : Lane) : (s.setLaneWait q).lane i = s.lane i := rfl
@[simp] theorem State.setLaneWait_point (q : List LaneWaitEntry) (s : State) (i : Point) : (s.setLaneWait q).point i = s.point i := rfl
@[simp] theorem State.setLaneWait_barrier (q : List LaneWaitEntry) (s : State) (i : Lane) : (s.setLaneWait q).barrier i = s.barrier i := rfl
@[simp] theorem State.setLaneWait_departures (q : List LaneWaitEntry) (s : State) (i : Lane) : (s.setLaneWait q).departures i = s.departures i := rfl
@[simp] theorem State.setLaneWait_block (q : List LaneWaitEntry) (s : State) (i : BlockNo) : (s.setLaneWait q).block i = s.block i := rfl
@[simp] theorem State.setLaneWait_rowState (q : List LaneWaitEntry) (s : State) (i : RowNo) : (s.setLaneWait q).rowState i = s.rowState i := rfl

/-! ### setContext -/

@[simp] theorem State.setContext_ports (c : Option CheckContext) (s : State) : (s.setContext c).ports = s.ports := rfl
@[simp] theorem State.setContext_intake (c : Option CheckContext) (s : State) : (s.setContext c).intake = s.intake := rfl
@[simp] theorem State.setContext_asm (c : Option CheckContext) (s : State) : (s.setContext c).asm = s.asm := rfl
@[simp] theorem State.setContext_watch (c : Option CheckContext) (s : State) : (s.setContext c).watch = s.watch := rfl
@[simp] theorem State.setContext_store (c : Option CheckContext) (s : State) : (s.setContext c).store = s.store := rfl
@[simp] theorem State.setContext_ring (c : Option CheckContext) (s : State) : (s.setContext c).ring = s.ring := rfl
@[simp] theorem State.setContext_pacer (c : Option CheckContext) (s : State) : (s.setContext c).pacer = s.pacer := rfl
@[simp] theorem State.setContext_engine (c : Option CheckContext) (s : State) : (s.setContext c).engine = s.engine := rfl
@[simp] theorem State.setContext_mgmt (c : Option CheckContext) (s : State) : (s.setContext c).mgmt = s.mgmt := rfl
@[simp] theorem State.setContext_pending (c : Option CheckContext) (s : State) : (s.setContext c).pending = s.pending := rfl
@[simp] theorem State.setContext_check_context (c : Option CheckContext) (s : State) : (s.setContext c).check.context = c := rfl
@[simp] theorem State.setContext_check_queue (c : Option CheckContext) (s : State) : (s.setContext c).check.queue = s.check.queue := rfl
@[simp] theorem State.setContext_visit (c : Option CheckContext) (s : State) (i : RecNo) : (s.setContext c).visit i = s.visit i := rfl
@[simp] theorem State.setContext_lane (c : Option CheckContext) (s : State) (i : Lane) : (s.setContext c).lane i = s.lane i := rfl
@[simp] theorem State.setContext_point (c : Option CheckContext) (s : State) (i : Point) : (s.setContext c).point i = s.point i := rfl
@[simp] theorem State.setContext_barrier (c : Option CheckContext) (s : State) (i : Lane) : (s.setContext c).barrier i = s.barrier i := rfl
@[simp] theorem State.setContext_departures (c : Option CheckContext) (s : State) (i : Lane) : (s.setContext c).departures i = s.departures i := rfl
@[simp] theorem State.setContext_block (c : Option CheckContext) (s : State) (i : BlockNo) : (s.setContext c).block i = s.block i := rfl
@[simp] theorem State.setContext_rowState (c : Option CheckContext) (s : State) (i : RowNo) : (s.setContext c).rowState i = s.rowState i := rfl

/-! ### count -/

@[simp] theorem State.count_ports (k : PartCounter) (s : State) : (s.count k).ports = s.ports := rfl
@[simp] theorem State.count_intake (k : PartCounter) (s : State) : (s.count k).intake = s.intake := rfl
@[simp] theorem State.count_asm (k : PartCounter) (s : State) : (s.count k).asm = s.asm := rfl
@[simp] theorem State.count_watch (k : PartCounter) (s : State) : (s.count k).watch = s.watch := rfl
@[simp] theorem State.count_check (k : PartCounter) (s : State) : (s.count k).check = s.check := rfl
@[simp] theorem State.count_store (k : PartCounter) (s : State) : (s.count k).store = s.store := rfl
@[simp] theorem State.count_ring (k : PartCounter) (s : State) : (s.count k).ring = s.ring := rfl
@[simp] theorem State.count_pacer (k : PartCounter) (s : State) : (s.count k).pacer = s.pacer := rfl
@[simp] theorem State.count_engine (k : PartCounter) (s : State) : (s.count k).engine = s.engine := rfl
@[simp] theorem State.count_pending (k : PartCounter) (s : State) : (s.count k).pending = s.pending := rfl
@[simp] theorem State.count_mgmt_unit (k : PartCounter) (s : State) : (s.count k).mgmt.unit = s.mgmt.unit := rfl
@[simp] theorem State.count_mgmt_queue (k : PartCounter) (s : State) : (s.count k).mgmt.queue = s.mgmt.queue := rfl
@[simp] theorem State.count_mgmt_params (k : PartCounter) (s : State) : (s.count k).mgmt.params = s.mgmt.params := rfl
@[simp] theorem State.count_mgmt_mask (k : PartCounter) (s : State) : (s.count k).mgmt.mask = s.mgmt.mask := rfl
@[simp] theorem State.count_mgmt_flags (k : PartCounter) (s : State) : (s.count k).mgmt.flags = s.mgmt.flags := rfl
@[simp] theorem State.count_mgmt_noticeWaiting (k : PartCounter) (s : State) : (s.count k).mgmt.noticeWaiting = s.mgmt.noticeWaiting := rfl
@[simp] theorem State.count_mgmt_laneCounters (k : PartCounter) (s : State) : (s.count k).mgmt.laneCounters = s.mgmt.laneCounters := rfl
@[simp] theorem State.count_mgmt_clock (k : PartCounter) (s : State) : (s.count k).mgmt.clock = s.mgmt.clock := rfl
@[simp] theorem State.count_mgmt_reportQueue (k : PartCounter) (s : State) : (s.count k).mgmt.reportQueue = s.mgmt.reportQueue := rfl
@[simp] theorem State.count_mgmt_reportWait (k : PartCounter) (s : State) : (s.count k).mgmt.reportWait = s.mgmt.reportWait := rfl
@[simp] theorem State.count_mgmt_hold (k : PartCounter) (s : State) : (s.count k).mgmt.hold = s.mgmt.hold := rfl
@[simp] theorem State.count_mgmt_reportNumber (k : PartCounter) (s : State) : (s.count k).mgmt.reportNumber = s.mgmt.reportNumber := rfl
@[simp] theorem State.count_mgmt_unitAddr (k : PartCounter) (s : State) : (s.count k).mgmt.unitAddr = s.mgmt.unitAddr := rfl
@[simp] theorem State.count_mgmt_typeHigh (k : PartCounter) (s : State) : (s.count k).mgmt.typeHigh = s.mgmt.typeHigh := rfl
@[simp] theorem State.count_visit (k : PartCounter) (s : State) (i : RecNo) : (s.count k).visit i = s.visit i := rfl
@[simp] theorem State.count_lane (k : PartCounter) (s : State) (i : Lane) : (s.count k).lane i = s.lane i := rfl
@[simp] theorem State.count_point (k : PartCounter) (s : State) (i : Point) : (s.count k).point i = s.point i := rfl
@[simp] theorem State.count_barrier (k : PartCounter) (s : State) (i : Lane) : (s.count k).barrier i = s.barrier i := rfl
@[simp] theorem State.count_departures (k : PartCounter) (s : State) (i : Lane) : (s.count k).departures i = s.departures i := rfl
@[simp] theorem State.count_block (k : PartCounter) (s : State) (i : BlockNo) : (s.count k).block i = s.block i := rfl
@[simp] theorem State.count_rowState (k : PartCounter) (s : State) (i : RowNo) : (s.count k).rowState i = s.rowState i := rfl

/-! ### countLane -/

@[simp] theorem State.countLane_ports (l : Lane) (k : LaneCounter) (s : State) : (s.countLane l k).ports = s.ports := rfl
@[simp] theorem State.countLane_intake (l : Lane) (k : LaneCounter) (s : State) : (s.countLane l k).intake = s.intake := rfl
@[simp] theorem State.countLane_asm (l : Lane) (k : LaneCounter) (s : State) : (s.countLane l k).asm = s.asm := rfl
@[simp] theorem State.countLane_watch (l : Lane) (k : LaneCounter) (s : State) : (s.countLane l k).watch = s.watch := rfl
@[simp] theorem State.countLane_check (l : Lane) (k : LaneCounter) (s : State) : (s.countLane l k).check = s.check := rfl
@[simp] theorem State.countLane_store (l : Lane) (k : LaneCounter) (s : State) : (s.countLane l k).store = s.store := rfl
@[simp] theorem State.countLane_ring (l : Lane) (k : LaneCounter) (s : State) : (s.countLane l k).ring = s.ring := rfl
@[simp] theorem State.countLane_pacer (l : Lane) (k : LaneCounter) (s : State) : (s.countLane l k).pacer = s.pacer := rfl
@[simp] theorem State.countLane_engine (l : Lane) (k : LaneCounter) (s : State) : (s.countLane l k).engine = s.engine := rfl
@[simp] theorem State.countLane_pending (l : Lane) (k : LaneCounter) (s : State) : (s.countLane l k).pending = s.pending := rfl
@[simp] theorem State.countLane_mgmt_unit (l : Lane) (k : LaneCounter) (s : State) : (s.countLane l k).mgmt.unit = s.mgmt.unit := rfl
@[simp] theorem State.countLane_mgmt_queue (l : Lane) (k : LaneCounter) (s : State) : (s.countLane l k).mgmt.queue = s.mgmt.queue := rfl
@[simp] theorem State.countLane_mgmt_params (l : Lane) (k : LaneCounter) (s : State) : (s.countLane l k).mgmt.params = s.mgmt.params := rfl
@[simp] theorem State.countLane_mgmt_mask (l : Lane) (k : LaneCounter) (s : State) : (s.countLane l k).mgmt.mask = s.mgmt.mask := rfl
@[simp] theorem State.countLane_mgmt_flags (l : Lane) (k : LaneCounter) (s : State) : (s.countLane l k).mgmt.flags = s.mgmt.flags := rfl
@[simp] theorem State.countLane_mgmt_noticeWaiting (l : Lane) (k : LaneCounter) (s : State) : (s.countLane l k).mgmt.noticeWaiting = s.mgmt.noticeWaiting := rfl
@[simp] theorem State.countLane_mgmt_partCounters (l : Lane) (k : LaneCounter) (s : State) : (s.countLane l k).mgmt.partCounters = s.mgmt.partCounters := rfl
@[simp] theorem State.countLane_mgmt_clock (l : Lane) (k : LaneCounter) (s : State) : (s.countLane l k).mgmt.clock = s.mgmt.clock := rfl
@[simp] theorem State.countLane_mgmt_reportQueue (l : Lane) (k : LaneCounter) (s : State) : (s.countLane l k).mgmt.reportQueue = s.mgmt.reportQueue := rfl
@[simp] theorem State.countLane_mgmt_reportWait (l : Lane) (k : LaneCounter) (s : State) : (s.countLane l k).mgmt.reportWait = s.mgmt.reportWait := rfl
@[simp] theorem State.countLane_mgmt_hold (l : Lane) (k : LaneCounter) (s : State) : (s.countLane l k).mgmt.hold = s.mgmt.hold := rfl
@[simp] theorem State.countLane_mgmt_reportNumber (l : Lane) (k : LaneCounter) (s : State) : (s.countLane l k).mgmt.reportNumber = s.mgmt.reportNumber := rfl
@[simp] theorem State.countLane_mgmt_unitAddr (l : Lane) (k : LaneCounter) (s : State) : (s.countLane l k).mgmt.unitAddr = s.mgmt.unitAddr := rfl
@[simp] theorem State.countLane_mgmt_typeHigh (l : Lane) (k : LaneCounter) (s : State) : (s.countLane l k).mgmt.typeHigh = s.mgmt.typeHigh := rfl
@[simp] theorem State.countLane_visit (l : Lane) (k : LaneCounter) (s : State) (i : RecNo) : (s.countLane l k).visit i = s.visit i := rfl
@[simp] theorem State.countLane_lane (l : Lane) (k : LaneCounter) (s : State) (i : Lane) : (s.countLane l k).lane i = s.lane i := rfl
@[simp] theorem State.countLane_point (l : Lane) (k : LaneCounter) (s : State) (i : Point) : (s.countLane l k).point i = s.point i := rfl
@[simp] theorem State.countLane_barrier (l : Lane) (k : LaneCounter) (s : State) (i : Lane) : (s.countLane l k).barrier i = s.barrier i := rfl
@[simp] theorem State.countLane_departures (l : Lane) (k : LaneCounter) (s : State) (i : Lane) : (s.countLane l k).departures i = s.departures i := rfl
@[simp] theorem State.countLane_block (l : Lane) (k : LaneCounter) (s : State) (i : BlockNo) : (s.countLane l k).block i = s.block i := rfl
@[simp] theorem State.countLane_rowState (l : Lane) (k : LaneCounter) (s : State) (i : RowNo) : (s.countLane l k).rowState i = s.rowState i := rfl

/-! ### placeLane -/

@[simp] theorem State.placeLane_intake (x : LaneSender) (s : State) : (s.placeLane x).intake = s.intake := rfl
@[simp] theorem State.placeLane_asm (x : LaneSender) (s : State) : (s.placeLane x).asm = s.asm := rfl
@[simp] theorem State.placeLane_watch (x : LaneSender) (s : State) : (s.placeLane x).watch = s.watch := rfl
@[simp] theorem State.placeLane_check (x : LaneSender) (s : State) : (s.placeLane x).check = s.check := rfl
@[simp] theorem State.placeLane_store (x : LaneSender) (s : State) : (s.placeLane x).store = s.store := rfl
@[simp] theorem State.placeLane_ring (x : LaneSender) (s : State) : (s.placeLane x).ring = s.ring := rfl
@[simp] theorem State.placeLane_pacer (x : LaneSender) (s : State) : (s.placeLane x).pacer = s.pacer := rfl
@[simp] theorem State.placeLane_engine (x : LaneSender) (s : State) : (s.placeLane x).engine = s.engine := rfl
@[simp] theorem State.placeLane_mgmt (x : LaneSender) (s : State) : (s.placeLane x).mgmt = s.mgmt := rfl
@[simp] theorem State.placeLane_pending (x : LaneSender) (s : State) : (s.placeLane x).pending = s.pending := rfl
@[simp] theorem State.placeLane_ports_laneToUplink (x : LaneSender) (s : State) : (s.placeLane x).ports.laneToUplink = s.ports.laneToUplink := rfl
@[simp] theorem State.placeLane_ports_uplinkToLane (x : LaneSender) (s : State) : (s.placeLane x).ports.uplinkToLane = s.ports.uplinkToLane := rfl
@[simp] theorem State.placeLane_ports_responsePlace (x : LaneSender) (s : State) : (s.placeLane x).ports.responsePlace = s.ports.responsePlace := rfl
@[simp] theorem State.placeLane_ports_reportPlace (x : LaneSender) (s : State) : (s.placeLane x).ports.reportPlace = s.ports.reportPlace := rfl
@[simp] theorem State.placeLane_ports_uplinkSending (x : LaneSender) (s : State) : (s.placeLane x).ports.uplinkSending = s.ports.uplinkSending := rfl
@[simp] theorem State.placeLane_ports_laneSending (x : LaneSender) (s : State) : (s.placeLane x).ports.laneSending = s.ports.laneSending := rfl
@[simp] theorem State.placeLane_visit (x : LaneSender) (s : State) (i : RecNo) : (s.placeLane x).visit i = s.visit i := rfl
@[simp] theorem State.placeLane_lane (x : LaneSender) (s : State) (i : Lane) : (s.placeLane x).lane i = s.lane i := rfl
@[simp] theorem State.placeLane_point (x : LaneSender) (s : State) (i : Point) : (s.placeLane x).point i = s.point i := rfl
@[simp] theorem State.placeLane_barrier (x : LaneSender) (s : State) (i : Lane) : (s.placeLane x).barrier i = s.barrier i := rfl
@[simp] theorem State.placeLane_departures (x : LaneSender) (s : State) (i : Lane) : (s.placeLane x).departures i = s.departures i := rfl
@[simp] theorem State.placeLane_block (x : LaneSender) (s : State) (i : BlockNo) : (s.placeLane x).block i = s.block i := rfl
@[simp] theorem State.placeLane_rowState (x : LaneSender) (s : State) (i : RowNo) : (s.placeLane x).rowState i = s.rowState i := rfl

/-! ### setStore -/

@[simp] theorem State.setStore_ports (t : TableStore) (s : State) : (s.setStore t).ports = s.ports := rfl
@[simp] theorem State.setStore_intake (t : TableStore) (s : State) : (s.setStore t).intake = s.intake := rfl
@[simp] theorem State.setStore_asm (t : TableStore) (s : State) : (s.setStore t).asm = s.asm := rfl
@[simp] theorem State.setStore_watch (t : TableStore) (s : State) : (s.setStore t).watch = s.watch := rfl
@[simp] theorem State.setStore_check (t : TableStore) (s : State) : (s.setStore t).check = s.check := rfl
@[simp] theorem State.setStore_ring (t : TableStore) (s : State) : (s.setStore t).ring = s.ring := rfl
@[simp] theorem State.setStore_pacer (t : TableStore) (s : State) : (s.setStore t).pacer = s.pacer := rfl
@[simp] theorem State.setStore_engine (t : TableStore) (s : State) : (s.setStore t).engine = s.engine := rfl
@[simp] theorem State.setStore_mgmt (t : TableStore) (s : State) : (s.setStore t).mgmt = s.mgmt := rfl
@[simp] theorem State.setStore_pending (t : TableStore) (s : State) : (s.setStore t).pending = s.pending := rfl
@[simp] theorem State.setStore_store (t : TableStore) (s : State) : (s.setStore t).store = t := rfl
@[simp] theorem State.setStore_visit (t : TableStore) (s : State) (i : RecNo) : (s.setStore t).visit i = s.visit i := rfl
@[simp] theorem State.setStore_lane (t : TableStore) (s : State) (i : Lane) : (s.setStore t).lane i = s.lane i := rfl
@[simp] theorem State.setStore_point (t : TableStore) (s : State) (i : Point) : (s.setStore t).point i = s.point i := rfl
@[simp] theorem State.setStore_barrier (t : TableStore) (s : State) (i : Lane) : (s.setStore t).barrier i = s.barrier i := rfl
@[simp] theorem State.setStore_departures (t : TableStore) (s : State) (i : Lane) : (s.setStore t).departures i = s.departures i := rfl
@[simp] theorem State.setStore_block (t : TableStore) (s : State) (i : BlockNo) : (s.setStore t).block i = s.block i := rfl
@[simp] theorem State.setStore_rowState (t : TableStore) (s : State) (i : RowNo) : (s.setStore t).rowState i = s.rowState i := rfl

/-! ### setRing -/

@[simp] theorem State.setRing_ports (g : Ring) (s : State) : (s.setRing g).ports = s.ports := rfl
@[simp] theorem State.setRing_intake (g : Ring) (s : State) : (s.setRing g).intake = s.intake := rfl
@[simp] theorem State.setRing_asm (g : Ring) (s : State) : (s.setRing g).asm = s.asm := rfl
@[simp] theorem State.setRing_watch (g : Ring) (s : State) : (s.setRing g).watch = s.watch := rfl
@[simp] theorem State.setRing_check (g : Ring) (s : State) : (s.setRing g).check = s.check := rfl
@[simp] theorem State.setRing_store (g : Ring) (s : State) : (s.setRing g).store = s.store := rfl
@[simp] theorem State.setRing_pacer (g : Ring) (s : State) : (s.setRing g).pacer = s.pacer := rfl
@[simp] theorem State.setRing_engine (g : Ring) (s : State) : (s.setRing g).engine = s.engine := rfl
@[simp] theorem State.setRing_mgmt (g : Ring) (s : State) : (s.setRing g).mgmt = s.mgmt := rfl
@[simp] theorem State.setRing_pending (g : Ring) (s : State) : (s.setRing g).pending = s.pending := rfl
@[simp] theorem State.setRing_ring (g : Ring) (s : State) : (s.setRing g).ring = g := rfl
@[simp] theorem State.setRing_visit (g : Ring) (s : State) (i : RecNo) : (s.setRing g).visit i = s.visit i := rfl
@[simp] theorem State.setRing_lane (g : Ring) (s : State) (i : Lane) : (s.setRing g).lane i = s.lane i := rfl
@[simp] theorem State.setRing_point (g : Ring) (s : State) (i : Point) : (s.setRing g).point i = s.point i := rfl
@[simp] theorem State.setRing_barrier (g : Ring) (s : State) (i : Lane) : (s.setRing g).barrier i = s.barrier i := rfl
@[simp] theorem State.setRing_departures (g : Ring) (s : State) (i : Lane) : (s.setRing g).departures i = s.departures i := rfl
@[simp] theorem State.setRing_block (g : Ring) (s : State) (i : BlockNo) : (s.setRing g).block i = s.block i := rfl
@[simp] theorem State.setRing_rowState (g : Ring) (s : State) (i : RowNo) : (s.setRing g).rowState i = s.rowState i := rfl

/-! ### setHold -/

@[simp] theorem State.setHold_ports (x : Bool) (s : State) : (s.setHold x).ports = s.ports := rfl
@[simp] theorem State.setHold_intake (x : Bool) (s : State) : (s.setHold x).intake = s.intake := rfl
@[simp] theorem State.setHold_asm (x : Bool) (s : State) : (s.setHold x).asm = s.asm := rfl
@[simp] theorem State.setHold_watch (x : Bool) (s : State) : (s.setHold x).watch = s.watch := rfl
@[simp] theorem State.setHold_check (x : Bool) (s : State) : (s.setHold x).check = s.check := rfl
@[simp] theorem State.setHold_store (x : Bool) (s : State) : (s.setHold x).store = s.store := rfl
@[simp] theorem State.setHold_ring (x : Bool) (s : State) : (s.setHold x).ring = s.ring := rfl
@[simp] theorem State.setHold_pacer (x : Bool) (s : State) : (s.setHold x).pacer = s.pacer := rfl
@[simp] theorem State.setHold_engine (x : Bool) (s : State) : (s.setHold x).engine = s.engine := rfl
@[simp] theorem State.setHold_pending (x : Bool) (s : State) : (s.setHold x).pending = s.pending := rfl
@[simp] theorem State.setHold_mgmt_hold (x : Bool) (s : State) : (s.setHold x).mgmt.hold = x := rfl
@[simp] theorem State.setHold_mgmt_unit (x : Bool) (s : State) : (s.setHold x).mgmt.unit = s.mgmt.unit := rfl
@[simp] theorem State.setHold_mgmt_queue (x : Bool) (s : State) : (s.setHold x).mgmt.queue = s.mgmt.queue := rfl
@[simp] theorem State.setHold_mgmt_params (x : Bool) (s : State) : (s.setHold x).mgmt.params = s.mgmt.params := rfl
@[simp] theorem State.setHold_mgmt_mask (x : Bool) (s : State) : (s.setHold x).mgmt.mask = s.mgmt.mask := rfl
@[simp] theorem State.setHold_mgmt_flags (x : Bool) (s : State) : (s.setHold x).mgmt.flags = s.mgmt.flags := rfl
@[simp] theorem State.setHold_mgmt_noticeWaiting (x : Bool) (s : State) : (s.setHold x).mgmt.noticeWaiting = s.mgmt.noticeWaiting := rfl
@[simp] theorem State.setHold_mgmt_laneCounters (x : Bool) (s : State) : (s.setHold x).mgmt.laneCounters = s.mgmt.laneCounters := rfl
@[simp] theorem State.setHold_mgmt_partCounters (x : Bool) (s : State) : (s.setHold x).mgmt.partCounters = s.mgmt.partCounters := rfl
@[simp] theorem State.setHold_mgmt_clock (x : Bool) (s : State) : (s.setHold x).mgmt.clock = s.mgmt.clock := rfl
@[simp] theorem State.setHold_mgmt_reportQueue (x : Bool) (s : State) : (s.setHold x).mgmt.reportQueue = s.mgmt.reportQueue := rfl
@[simp] theorem State.setHold_mgmt_reportWait (x : Bool) (s : State) : (s.setHold x).mgmt.reportWait = s.mgmt.reportWait := rfl
@[simp] theorem State.setHold_mgmt_reportNumber (x : Bool) (s : State) : (s.setHold x).mgmt.reportNumber = s.mgmt.reportNumber := rfl
@[simp] theorem State.setHold_mgmt_unitAddr (x : Bool) (s : State) : (s.setHold x).mgmt.unitAddr = s.mgmt.unitAddr := rfl
@[simp] theorem State.setHold_mgmt_typeHigh (x : Bool) (s : State) : (s.setHold x).mgmt.typeHigh = s.mgmt.typeHigh := rfl
@[simp] theorem State.setHold_visit (x : Bool) (s : State) (i : RecNo) : (s.setHold x).visit i = s.visit i := rfl
@[simp] theorem State.setHold_lane (x : Bool) (s : State) (i : Lane) : (s.setHold x).lane i = s.lane i := rfl
@[simp] theorem State.setHold_point (x : Bool) (s : State) (i : Point) : (s.setHold x).point i = s.point i := rfl
@[simp] theorem State.setHold_barrier (x : Bool) (s : State) (i : Lane) : (s.setHold x).barrier i = s.barrier i := rfl
@[simp] theorem State.setHold_departures (x : Bool) (s : State) (i : Lane) : (s.setHold x).departures i = s.departures i := rfl
@[simp] theorem State.setHold_block (x : Bool) (s : State) (i : BlockNo) : (s.setHold x).block i = s.block i := rfl
@[simp] theorem State.setHold_rowState (x : Bool) (s : State) (i : RowNo) : (s.setHold x).rowState i = s.rowState i := rfl

end Sys2Proof.Machine
end

