-- ==== Sys2Proof/Laws/Tables.lean ====
section
/-! SUPPORT. Tables: what a changed place holds and what every other place holds; the sparse tables' read after write,
and that every operation on them keeps the canonical form. -/

namespace Sys2Proof.Machine

open Sys2Proof

/-! ### Dense tables -/

/-- An update as the setting of one place. -/
theorem updAt_eq_set (v : Vector α n) (i : Fin n) (f : α → α) : updAt v i f = v.set i.val (f v[i]) i.isLt := rfl

@[simp] theorem updAt_same (v : Vector α n) (i : Fin n) (f : α → α) : (updAt v i f)[i.val] = f v[i.val] := by
  simp [updAt]

theorem updAt_other (v : Vector α n) {i j : Fin n} (f : α → α) (h : j ≠ i) : (updAt v i f)[j] = v[j] := by
  have : i.val ≠ j.val := fun e => h (Fin.ext e.symm)
  simp [updAt, Vector.getElem_set_ne, this]

theorem updAt_get (v : Vector α n) (i j : Fin n) (f : α → α) :
    (updAt v i f)[j] = if j = i then f v[i] else v[j] := by
  by_cases h : j = i
  · subst h; simp
  · rw [if_neg h, updAt_other v f h]

/-- The place of the thing numbered i + 1. -/
theorem place_succ (b : Fin k) : place? k (b.val + 1) = some b := by
  have := b.isLt
  rw [place?, dif_pos ⟨by omega, by omega⟩]
  rfl

/-- A number out of range names nothing. -/
theorem place_none {k n : Nat} (h : n = 0 ∨ k < n) : place? k n = none := by
  rw [place?, dif_neg (by omega)]

/-- The place of a number in range is its predecessor's. -/
theorem place_some {k n : Nat} {i : Fin k} (h : place? k n = some i) : n = i.val + 1 := by
  unfold place? at h
  split at h
  · simp only [Option.some.injEq] at h
    subst h
    simp only
    omega
  · cases h

/-- A lane's own point is that lane's. -/
@[simp] theorem pointLane_lanePoint (l : Lane) : pointLane? (lanePoint l) = some l := by
  have := l.isLt
  simp [pointLane?, lanePoint, this]

theorem lanePoint_of_pointLane {p : Point} {l : Lane} (h : pointLane? p = some l) : p = lanePoint l := by
  unfold pointLane? at h
  split at h
  · cases h; rfl
  · cases h

/-! ### Sparse tables -/

@[simp] theorem readCell_nil (k : Nat) : readCell k ([] : List (Nat × α)) = none := rfl

theorem readCell_cons (k j : Nat) (x : α) (t : List (Nat × α)) :
    readCell k ((j, x) :: t) = if j = k then some x else readCell k t := rfl

@[simp] theorem readCell_writeCell_same (k : Nat) (x : α) (t : List (Nat × α)) : readCell k (writeCell k x t) = some x := by
  induction t with
  | nil => simp [writeCell, readCell]
  | cons c t ih =>
    obtain ⟨j, y⟩ := c
    unfold writeCell
    split
    · simp [readCell]
    · split
      · simp [readCell]
      · simp [readCell, *]

theorem readCell_writeCell_other {i k : Nat} (x : α) (t : List (Nat × α)) (h : i ≠ k) :
    readCell i (writeCell k x t) = readCell i t := by
  induction t with
  | nil => simp [writeCell, readCell, h.symm]
  | cons c t ih =>
    obtain ⟨j, y⟩ := c
    unfold writeCell
    split
    · simp [readCell, h.symm]
    · split
      · rename_i e; subst e; simp [readCell, h.symm]
      · simp [readCell, ih]

/-- Below the first number of a table in canonical form nothing is listed. -/
theorem readCell_below {i j : Nat} {y : α} {t : List (Nat × α)} (w : cellsWf ((j, y) :: t) = true) (h : i < j) :
    readCell i ((j, y) :: t) = none := by
  induction t generalizing j y with
  | nil => simp [readCell]; omega
  | cons c t ih =>
    obtain ⟨k, z⟩ := c
    simp only [cellsWf, Bool.and_eq_true, decide_eq_true_eq] at w
    rw [readCell_cons, if_neg (by omega)]
    exact ih w.2 (by omega)

theorem cellsWf_tail {c : Nat × α} {t : List (Nat × α)} (w : cellsWf (c :: t) = true) : cellsWf t = true := by
  cases t with
  | nil => rfl
  | cons d t =>
    obtain ⟨j, x⟩ := c; obtain ⟨k, y⟩ := d
    simp only [cellsWf, Bool.and_eq_true] at w
    exact w.2

theorem readCell_clearCell_same {k : Nat} {t : List (Nat × α)} (w : cellsWf t = true) :
    readCell k (clearCell k t) = none := by
  induction t with
  | nil => rfl
  | cons c t ih =>
    obtain ⟨j, y⟩ := c
    unfold clearCell
    split
    · rename_i e
      subst e
      cases t with
      | nil => rfl
      | cons d t =>
        obtain ⟨i, z⟩ := d
        have := w
        simp only [cellsWf, Bool.and_eq_true, decide_eq_true_eq] at this
        exact readCell_below (cellsWf_tail w) this.1
    · rename_i e
      rw [readCell_cons, if_neg e]
      exact ih (cellsWf_tail w)

theorem readCell_clearCell_other {i k : Nat} (t : List (Nat × α)) (h : i ≠ k) :
    readCell i (clearCell k t) = readCell i t := by
  induction t with
  | nil => rfl
  | cons c t ih =>
    obtain ⟨j, y⟩ := c
    unfold clearCell
    split
    · rename_i e; subst e; simp [readCell, h.symm]
    · simp [readCell, ih]

/-- The numbers of a table lie above a bound. -/
theorem cellsWf_cons {j : Nat} {y : α} {t : List (Nat × α)} :
    cellsWf ((j, y) :: t) = true ↔ cellsWf t = true ∧ ∀ c ∈ t.head?, j < c.1 := by
  cases t with
  | nil => simp [cellsWf]
  | cons d t => obtain ⟨k, z⟩ := d; simp [cellsWf, and_comm]

theorem head_writeCell (k : Nat) (x : α) (t : List (Nat × α)) :
    ∀ c ∈ (writeCell k x t).head?, c.1 = k ∨ ∃ d ∈ t.head?, c.1 = d.1 := by
  cases t with
  | nil => simp [writeCell]
  | cons d t =>
    obtain ⟨j, y⟩ := d
    unfold writeCell
    split
    · simp
    · split <;> simp_all

/-- A write keeps the canonical form. -/
theorem cellsWf_writeCell (k : Nat) (x : α) {t : List (Nat × α)} (w : cellsWf t = true) :
    cellsWf (writeCell k x t) = true := by
  induction t with
  | nil => rfl
  | cons c t ih =>
    obtain ⟨j, y⟩ := c
    unfold writeCell
    split
    · rename_i h; simp [cellsWf_cons (t := (j, y) :: t), w, h]
    · split
      · rename_i e; subst e; simpa [cellsWf_cons] using w
      · rename_i h e
        rw [cellsWf_cons] at w ⊢
        refine ⟨ih w.1, fun c hc => ?_⟩
        rcases head_writeCell k x t c hc with h' | ⟨d, hd, h'⟩
        · omega
        · have := w.2 d hd; omega

/-- A removal keeps the canonical form. -/
theorem cellsWf_clearCell (k : Nat) {t : List (Nat × α)} (w : cellsWf t = true) : cellsWf (clearCell k t) = true := by
  induction t with
  | nil => rfl
  | cons c t ih =>
    obtain ⟨j, y⟩ := c
    unfold clearCell
    split
    · exact cellsWf_tail w
    · rw [cellsWf_cons] at w ⊢
      refine ⟨ih w.1, fun c hc => ?_⟩
      cases t with
      | nil => simp [clearCell] at hc
      | cons d t =>
        obtain ⟨i, z⟩ := d
        have hji := w.2 (i, z) (by simp)
        unfold clearCell at hc
        split at hc
        · have hw := (cellsWf_cons.mp w.1).2 c hc
          simp at hji; omega
        · simp at hc; subst hc; exact hji

end Sys2Proof.Machine
end

