-- ==== Sys2Proof/Laws/Ops.lean ====
section
/-! SUPPORT. What the shared operations can do: the changed place of each table, raising an event, settling the ports,
taking a request, and what an answer is. -/

namespace Sys2Proof.Machine

open Sys2Proof

/-! ### The changed place and the others -/

@[simp] theorem State.modVisit_visit_same (i : RecNo) (f : Visit → Visit) (s : State) : (s.modVisit i f).visit i = f (s.visit i) := by
  simp [State.visit, State.modVisit]

theorem State.modVisit_visit_other {i j : RecNo} (f : Visit → Visit) (s : State) (h : j ≠ i) : (s.modVisit i f).visit j = s.visit j :=
  updAt_other _ f h

@[simp] theorem State.modLane_lane_same (i : Lane) (f : LaneRecord → LaneRecord) (s : State) : (s.modLane i f).lane i = f (s.lane i) := by
  simp [State.lane, State.modLane]

theorem State.modLane_lane_other {i j : Lane} (f : LaneRecord → LaneRecord) (s : State) (h : j ≠ i) : (s.modLane i f).lane j = s.lane j :=
  updAt_other _ f h

@[simp] theorem State.modPoint_point_same (i : Point) (f : PointState → PointState) (s : State) : (s.modPoint i f).point i = f (s.point i) := by
  simp [State.point, State.modPoint]

theorem State.modPoint_point_other {i j : Point} (f : PointState → PointState) (s : State) (h : j ≠ i) : (s.modPoint i f).point j = s.point j :=
  updAt_other _ f h

@[simp] theorem State.modBarrier_barrier_same (i : Lane) (f : Barrier → Barrier) (s : State) : (s.modBarrier i f).barrier i = f (s.barrier i) := by
  simp [State.barrier, State.modBarrier]

theorem State.modBarrier_barrier_other {i j : Lane} (f : Barrier → Barrier) (s : State) (h : j ≠ i) : (s.modBarrier i f).barrier j = s.barrier j :=
  updAt_other _ f h

@[simp] theorem State.modDepartures_departures_same (i : Lane) (f : List Departure → List Departure) (s : State) : (s.modDepartures i f).departures i = f (s.departures i) := by
  simp [State.departures, State.modDepartures]

theorem State.modDepartures_departures_other {i j : Lane} (f : List Departure → List Departure) (s : State) (h : j ≠ i) : (s.modDepartures i f).departures j = s.departures j :=
  updAt_other _ f h

@[simp] theorem State.modBlock_block_same (i : BlockNo) (f : YardBlock → YardBlock) (s : State) : (s.modBlock i f).block i = f (s.block i) := by
  simp [State.block, State.modBlock]

theorem State.modBlock_block_other {i j : BlockNo} (f : YardBlock → YardBlock) (s : State) (h : j ≠ i) : (s.modBlock i f).block j = s.block j :=
  updAt_other _ f h

@[simp] theorem State.setRow_rowState_same (i : RowNo) (x : RowState) (s : State) : (s.setRow i x).rowState i = x := by
  simp [State.rowState, State.setRow]

theorem State.setRow_rowState_other {i j : RowNo} (x : RowState) (s : State) (h : j ≠ i) :
    (s.setRow i x).rowState j = s.rowState j :=
  updAt_other _ _ h

/-! ### Raising an event (R170, R171) -/

/-- All that raising can do: nothing when the flag is set, else the flag set and a NOTICE waiting when enabled. -/
theorem State.raise_cases (c : NoticeClass) (s : State) :
    (s.mgmt.flags.has c = true ∧ s.raise c = s)
      ∨ (s.mgmt.flags.has c = false ∧ s.raise c = { s with mgmt := { s.mgmt with
          flags := s.mgmt.flags.insert c, noticeWaiting := s.mgmt.noticeWaiting || s.mgmt.mask.has c } }) := by
  unfold State.raise
  split
  · exact .inl ⟨‹_›, rfl⟩
  · rename_i h
    refine .inr ⟨by simpa using h, ?_⟩
    by_cases m : s.mgmt.mask.has c = true
    · simp [m, State.startNotice]
    · simp [m]

@[simp] theorem State.raise_ports (c : NoticeClass) (s : State) : (s.raise c).ports = s.ports := by
  rcases s.raise_cases c with ⟨-, h⟩ | ⟨-, h⟩ <;> rw [h]

@[simp] theorem State.raise_intake (c : NoticeClass) (s : State) : (s.raise c).intake = s.intake := by
  rcases s.raise_cases c with ⟨-, h⟩ | ⟨-, h⟩ <;> rw [h]

@[simp] theorem State.raise_asm (c : NoticeClass) (s : State) : (s.raise c).asm = s.asm := by
  rcases s.raise_cases c with ⟨-, h⟩ | ⟨-, h⟩ <;> rw [h]

@[simp] theorem State.raise_watch (c : NoticeClass) (s : State) : (s.raise c).watch = s.watch := by
  rcases s.raise_cases c with ⟨-, h⟩ | ⟨-, h⟩ <;> rw [h]

@[simp] theorem State.raise_check (c : NoticeClass) (s : State) : (s.raise c).check = s.check := by
  rcases s.raise_cases c with ⟨-, h⟩ | ⟨-, h⟩ <;> rw [h]

@[simp] theorem State.raise_store (c : NoticeClass) (s : State) : (s.raise c).store = s.store := by
  rcases s.raise_cases c with ⟨-, h⟩ | ⟨-, h⟩ <;> rw [h]

@[simp] theorem State.raise_ring (c : NoticeClass) (s : State) : (s.raise c).ring = s.ring := by
  rcases s.raise_cases c with ⟨-, h⟩ | ⟨-, h⟩ <;> rw [h]

@[simp] theorem State.raise_pacer (c : NoticeClass) (s : State) : (s.raise c).pacer = s.pacer := by
  rcases s.raise_cases c with ⟨-, h⟩ | ⟨-, h⟩ <;> rw [h]

@[simp] theorem State.raise_engine (c : NoticeClass) (s : State) : (s.raise c).engine = s.engine := by
  rcases s.raise_cases c with ⟨-, h⟩ | ⟨-, h⟩ <;> rw [h]

@[simp] theorem State.raise_pending (c : NoticeClass) (s : State) : (s.raise c).pending = s.pending := by
  rcases s.raise_cases c with ⟨-, h⟩ | ⟨-, h⟩ <;> rw [h]

@[simp] theorem State.raise_unit_mgmt (c : NoticeClass) (s : State) : (s.raise c).mgmt.unit = s.mgmt.unit := by
  rcases s.raise_cases c with ⟨-, h⟩ | ⟨-, h⟩ <;> rw [h]

@[simp] theorem State.raise_queue_mgmt (c : NoticeClass) (s : State) : (s.raise c).mgmt.queue = s.mgmt.queue := by
  rcases s.raise_cases c with ⟨-, h⟩ | ⟨-, h⟩ <;> rw [h]

@[simp] theorem State.raise_params_mgmt (c : NoticeClass) (s : State) : (s.raise c).mgmt.params = s.mgmt.params := by
  rcases s.raise_cases c with ⟨-, h⟩ | ⟨-, h⟩ <;> rw [h]

@[simp] theorem State.raise_mask_mgmt (c : NoticeClass) (s : State) : (s.raise c).mgmt.mask = s.mgmt.mask := by
  rcases s.raise_cases c with ⟨-, h⟩ | ⟨-, h⟩ <;> rw [h]

@[simp] theorem State.raise_laneCounters_mgmt (c : NoticeClass) (s : State) : (s.raise c).mgmt.laneCounters = s.mgmt.laneCounters := by
  rcases s.raise_cases c with ⟨-, h⟩ | ⟨-, h⟩ <;> rw [h]

@[simp] theorem State.raise_partCounters_mgmt (c : NoticeClass) (s : State) : (s.raise c).mgmt.partCounters = s.mgmt.partCounters := by
  rcases s.raise_cases c with ⟨-, h⟩ | ⟨-, h⟩ <;> rw [h]

@[simp] theorem State.raise_clock_mgmt (c : NoticeClass) (s : State) : (s.raise c).mgmt.clock = s.mgmt.clock := by
  rcases s.raise_cases c with ⟨-, h⟩ | ⟨-, h⟩ <;> rw [h]

@[simp] theorem State.raise_reportQueue_mgmt (c : NoticeClass) (s : State) : (s.raise c).mgmt.reportQueue = s.mgmt.reportQueue := by
  rcases s.raise_cases c with ⟨-, h⟩ | ⟨-, h⟩ <;> rw [h]

@[simp] theorem State.raise_reportWait_mgmt (c : NoticeClass) (s : State) : (s.raise c).mgmt.reportWait = s.mgmt.reportWait := by
  rcases s.raise_cases c with ⟨-, h⟩ | ⟨-, h⟩ <;> rw [h]

@[simp] theorem State.raise_hold_mgmt (c : NoticeClass) (s : State) : (s.raise c).mgmt.hold = s.mgmt.hold := by
  rcases s.raise_cases c with ⟨-, h⟩ | ⟨-, h⟩ <;> rw [h]

@[simp] theorem State.raise_reportNumber_mgmt (c : NoticeClass) (s : State) : (s.raise c).mgmt.reportNumber = s.mgmt.reportNumber := by
  rcases s.raise_cases c with ⟨-, h⟩ | ⟨-, h⟩ <;> rw [h]

@[simp] theorem State.raise_unitAddr_mgmt (c : NoticeClass) (s : State) : (s.raise c).mgmt.unitAddr = s.mgmt.unitAddr := by
  rcases s.raise_cases c with ⟨-, h⟩ | ⟨-, h⟩ <;> rw [h]

@[simp] theorem State.raise_typeHigh_mgmt (c : NoticeClass) (s : State) : (s.raise c).mgmt.typeHigh = s.mgmt.typeHigh := by
  rcases s.raise_cases c with ⟨-, h⟩ | ⟨-, h⟩ <;> rw [h]

/-! ### Settling the ports (R175, R184–R186) -/

/-- Handing a report to the port changes the report place alone. -/
theorem State.handReport_cases (s : State) :
    s.handReport = s ∨ ∃ h, s.handReport = { s with ports := { s.ports with reportPlace := some h } } := by
  unfold State.handReport
  split
  · exact .inl rfl
  · split
    · exact .inl rfl
    · exact .inr ⟨_, rfl⟩

/-- The UPLINK arbiter changes ports and the waiting NOTICE alone. -/
theorem State.grantUplink_cases (s : State) :
    ∃ r h u w, s.grantUplink = { s with
      ports := { s.ports with responsePlace := r, reportPlace := h, uplinkSending := u }
      mgmt := { s.mgmt with noticeWaiting := w } } := by
  unfold State.grantUplink
  split
  · exact ⟨_, _, _, _, rfl⟩
  · split
    · exact ⟨_, _, _, _, rfl⟩
    · split
      · exact ⟨_, _, _, _, rfl⟩
      · split
        · exact ⟨_, _, _, _, rfl⟩
        · split <;> exact ⟨_, _, _, _, rfl⟩

/-- The LANE arbiter changes the LANE places and the LANE transmitter alone. -/
theorem State.grantLane_cases (s : State) :
    ∃ q x, s.grantLane = { s with ports := { s.ports with lanePlaces := q, laneSending := x } } := by
  unfold State.grantLane
  split
  · exact ⟨_, _, rfl⟩
  · split
    · exact ⟨_, _, rfl⟩
    · split
      · exact ⟨_, _, rfl⟩
      · split <;> exact ⟨_, _, rfl⟩

/-- Settling changes ports and the waiting NOTICE alone, and neither pass-through queue. -/
theorem State.settle_cases (s : State) :
    ∃ p w, s.settle = { s with ports := p, mgmt := { s.mgmt with noticeWaiting := w } }
      ∧ p.laneToUplink = s.ports.laneToUplink ∧ p.uplinkToLane = s.ports.uplinkToLane := by
  unfold State.settle
  obtain ⟨_, _, h⟩ := s.handReport.grantUplink.handReport.grantLane_cases
  obtain ⟨_, _, _, _, u⟩ := s.handReport.grantUplink_cases
  rw [h]
  rcases s.handReport.grantUplink.handReport_cases with e | ⟨_, e⟩ <;> rw [e, u] <;>
    rcases s.handReport_cases with k | ⟨_, k⟩ <;> rw [k] <;> exact ⟨_, _, rfl, rfl, rfl⟩

@[simp] theorem State.settle_intake (s : State) : s.settle.intake = s.intake := by
  obtain ⟨_, _, h, -⟩ := s.settle_cases
  rw [h]

@[simp] theorem State.settle_asm (s : State) : s.settle.asm = s.asm := by
  obtain ⟨_, _, h, -⟩ := s.settle_cases
  rw [h]

@[simp] theorem State.settle_watch (s : State) : s.settle.watch = s.watch := by
  obtain ⟨_, _, h, -⟩ := s.settle_cases
  rw [h]

@[simp] theorem State.settle_check (s : State) : s.settle.check = s.check := by
  obtain ⟨_, _, h, -⟩ := s.settle_cases
  rw [h]

@[simp] theorem State.settle_store (s : State) : s.settle.store = s.store := by
  obtain ⟨_, _, h, -⟩ := s.settle_cases
  rw [h]

@[simp] theorem State.settle_ring (s : State) : s.settle.ring = s.ring := by
  obtain ⟨_, _, h, -⟩ := s.settle_cases
  rw [h]

@[simp] theorem State.settle_pacer (s : State) : s.settle.pacer = s.pacer := by
  obtain ⟨_, _, h, -⟩ := s.settle_cases
  rw [h]

@[simp] theorem State.settle_engine (s : State) : s.settle.engine = s.engine := by
  obtain ⟨_, _, h, -⟩ := s.settle_cases
  rw [h]

@[simp] theorem State.settle_pending (s : State) : s.settle.pending = s.pending := by
  obtain ⟨_, _, h, -⟩ := s.settle_cases
  rw [h]

@[simp] theorem State.settle_unit_mgmt (s : State) : s.settle.mgmt.unit = s.mgmt.unit := by
  obtain ⟨_, _, h, -⟩ := s.settle_cases
  rw [h]

@[simp] theorem State.settle_queue_mgmt (s : State) : s.settle.mgmt.queue = s.mgmt.queue := by
  obtain ⟨_, _, h, -⟩ := s.settle_cases
  rw [h]

@[simp] theorem State.settle_params_mgmt (s : State) : s.settle.mgmt.params = s.mgmt.params := by
  obtain ⟨_, _, h, -⟩ := s.settle_cases
  rw [h]

@[simp] theorem State.settle_mask_mgmt (s : State) : s.settle.mgmt.mask = s.mgmt.mask := by
  obtain ⟨_, _, h, -⟩ := s.settle_cases
  rw [h]

@[simp] theorem State.settle_laneCounters_mgmt (s : State) : s.settle.mgmt.laneCounters = s.mgmt.laneCounters := by
  obtain ⟨_, _, h, -⟩ := s.settle_cases
  rw [h]

@[simp] theorem State.settle_partCounters_mgmt (s : State) : s.settle.mgmt.partCounters = s.mgmt.partCounters := by
  obtain ⟨_, _, h, -⟩ := s.settle_cases
  rw [h]

@[simp] theorem State.settle_clock_mgmt (s : State) : s.settle.mgmt.clock = s.mgmt.clock := by
  obtain ⟨_, _, h, -⟩ := s.settle_cases
  rw [h]

@[simp] theorem State.settle_reportQueue_mgmt (s : State) : s.settle.mgmt.reportQueue = s.mgmt.reportQueue := by
  obtain ⟨_, _, h, -⟩ := s.settle_cases
  rw [h]

@[simp] theorem State.settle_reportWait_mgmt (s : State) : s.settle.mgmt.reportWait = s.mgmt.reportWait := by
  obtain ⟨_, _, h, -⟩ := s.settle_cases
  rw [h]

@[simp] theorem State.settle_hold_mgmt (s : State) : s.settle.mgmt.hold = s.mgmt.hold := by
  obtain ⟨_, _, h, -⟩ := s.settle_cases
  rw [h]

@[simp] theorem State.settle_reportNumber_mgmt (s : State) : s.settle.mgmt.reportNumber = s.mgmt.reportNumber := by
  obtain ⟨_, _, h, -⟩ := s.settle_cases
  rw [h]

@[simp] theorem State.settle_unitAddr_mgmt (s : State) : s.settle.mgmt.unitAddr = s.mgmt.unitAddr := by
  obtain ⟨_, _, h, -⟩ := s.settle_cases
  rw [h]

@[simp] theorem State.settle_typeHigh_mgmt (s : State) : s.settle.mgmt.typeHigh = s.mgmt.typeHigh := by
  obtain ⟨_, _, h, -⟩ := s.settle_cases
  rw [h]

@[simp] theorem State.settle_flags_mgmt (s : State) : s.settle.mgmt.flags = s.mgmt.flags := by
  obtain ⟨_, _, h, -⟩ := s.settle_cases
  rw [h]

@[simp] theorem State.settle_visit (s : State) (i : RecNo) : s.settle.visit i = s.visit i := by
  simp [State.visit]

@[simp] theorem State.raise_visit (c : NoticeClass) (s : State) (i : RecNo) : (s.raise c).visit i = s.visit i := by
  simp [State.visit]

@[simp] theorem State.settle_lane (s : State) (i : Lane) : s.settle.lane i = s.lane i := by
  simp [State.lane]

@[simp] theorem State.raise_lane (c : NoticeClass) (s : State) (i : Lane) : (s.raise c).lane i = s.lane i := by
  simp [State.lane]

@[simp] theorem State.settle_point (s : State) (i : Point) : s.settle.point i = s.point i := by
  simp [State.point]

@[simp] theorem State.raise_point (c : NoticeClass) (s : State) (i : Point) : (s.raise c).point i = s.point i := by
  simp [State.point]

@[simp] theorem State.settle_barrier (s : State) (i : Lane) : s.settle.barrier i = s.barrier i := by
  simp [State.barrier]

@[simp] theorem State.raise_barrier (c : NoticeClass) (s : State) (i : Lane) : (s.raise c).barrier i = s.barrier i := by
  simp [State.barrier]

@[simp] theorem State.settle_departures (s : State) (i : Lane) : s.settle.departures i = s.departures i := by
  simp [State.departures]

@[simp] theorem State.raise_departures (c : NoticeClass) (s : State) (i : Lane) : (s.raise c).departures i = s.departures i := by
  simp [State.departures]

@[simp] theorem State.settle_block (s : State) (i : BlockNo) : s.settle.block i = s.block i := by
  simp [State.block]

@[simp] theorem State.raise_block (c : NoticeClass) (s : State) (i : BlockNo) : (s.raise c).block i = s.block i := by
  simp [State.block]

@[simp] theorem State.settle_rowState (s : State) (i : RowNo) : s.settle.rowState i = s.rowState i := by
  simp [State.rowState]

@[simp] theorem State.raise_rowState (c : NoticeClass) (s : State) (i : RowNo) : (s.raise c).rowState i = s.rowState i := by
  simp [State.rowState]

/-! ### Taking and answering a request (R165, R166) -/

/-- A request that can be taken is the head of the queue. -/
theorem State.takes_next {s : State} {tag : Nat} {m : MgmtRequest} {rest : List Request} (h : s.takes tag m rest) :
    s.nextRequest? = some (tag, m, { s with mgmt := { s.mgmt with queue := rest } }) := by
  obtain ⟨hu, body, hq, hb⟩ := h
  simp [State.nextRequest?, State.nextBody?, hu, hq, hb]

/-- What is taken was the head of the queue of an IDLE management unit. -/
theorem State.next_takes {s t : State} {tag : Nat} {m : MgmtRequest} (h : s.nextRequest? = some (tag, m, t)) :
    ∃ rest, s.takes tag m rest ∧ t = { s with mgmt := { s.mgmt with queue := rest } } := by
  unfold State.nextRequest? State.nextBody? at h
  split at h
  · rename_i q u hq
    split at hq
    · rename_i q' rest hu hqueue
      simp only [Option.some.injEq, Prod.mk.injEq] at hq
      obtain ⟨rfl, rfl⟩ := hq
      cases hb : request? q'.body with
      | none => rw [hb] at h; cases h
      | some m' =>
        rw [hb] at h
        simp only [Option.map_some, Option.some.injEq, Prod.mk.injEq] at h
        obtain ⟨rfl, rfl, rfl⟩ := h
        exact ⟨rest, ⟨hu, q'.body, hqueue, hb⟩, rfl⟩
    · cases hq
  · cases h

/-- An answer that changed only what its state says is that state with the response handed to the port. -/
theorem answer_eq (tag kind : Nat) (rest : List Request) (t : State) (st : Status) (res : Results)
    (h : t.mgmt.queue = rest) :
    answer tag kind (t, st, res) = t.answeredWith rest ⟨tag, kind, st, res⟩ := by
  subst h
  rfl

/-- Responding leaves the blocks alone. -/
@[simp] theorem State.respond_asm (tag kind : Nat) (st : Status) (res : Results) (s : State) :
    (s.respond tag kind st res).asm = s.asm := rfl

@[simp] theorem State.respond_pending (tag kind : Nat) (st : Status) (res : Results) (s : State) :
    (s.respond tag kind st res).pending = s.pending := rfl

/-- The outcome of a step is its settled state. -/
theorem done_eq (s : State) : done s = .next s.settle := rfl

/-! ### Visits by number -/

/-- A visit found by its number carries it and is in use. -/
theorem State.findVisit_some {s : State} {n : Nat} {r : RecNo} (h : s.findVisit n = some r) :
    (s.visit r).number = n ∧ (s.visit r).state ≠ .free := by
  have := List.find?_some h
  simp at this
  exact ⟨this.2, this.1⟩

/-- No visit is found exactly when no record in use carries the number. -/
theorem State.findVisit_none {s : State} {n : Nat} :
    s.findVisit n = none ↔ ∀ r : RecNo, (s.visit r).number = n → (s.visit r).state = .free := by
  simp only [State.findVisit, List.find?_eq_none, List.mem_finRange, true_implies]
  constructor
  · intro h r hn
    by_contra hf
    exact h r (by simp [hn, hf])
  · intro h r
    by_cases hn : (s.visit r).number = n
    · simp [h r hn]
    · simp [hn]

/-- Deciding the outcome writes what R105 gives for the visit as it stands (R104). -/
theorem State.decideOutcome_outcome (c : CheckContext) (s : State) :
    ((s.decideOutcome c).visit c.visit).outcome = some ((s.visit c.visit).decidedOutcome c.namesPlate) := by
  simp [State.decideOutcome]

/-- Deciding the outcome leaves every other visit as it is. -/
theorem State.decideOutcome_visit_ne (c : CheckContext) (s : State) {r : RecNo} (h : r ≠ c.visit) :
    (s.decideOutcome c).visit r = s.visit r :=
  State.modVisit_visit_other _ s h

/-- WATCH_READ's entry is 23 bytes when its key fits (TABLE 6-5). -/
theorem encWatch_length {e : WatchEntry} (h : e.Fits) : (encWatch e).length = 23 := by
  have key : ∀ k : Option WatchKey, (∀ t n, k = some (.text t n) → t.length ≤ 11) → (encWatchKey k).length = 18 := by
    rintro (_ | ⟨t, n⟩ | ⟨n, m⟩) hk
    · rfl
    · have := hk t n rfl
      simp [encWatchKey, encText, fill, enc1, enc2, enc4]
      omega
    · rfl
  have := key ((if e.valid then some e else none).map WatchEntry.key) (by
    intro t n hk
    split at hk
    · exact h t n (by simpa using hk)
    · simp at hk)
  simpa [encWatch, encFlag, encEnum?, enc1] using this

end Sys2Proof.Machine
end

