-- ==== Sys2Proof/WellFormed.lean ====
section
/-! DEFINITION. Which commands are well formed: the numbers a command carries are in range, and a frame that a MAC
discards comes as FRAME_DISCARD while every other frame command carries a frame that a MAC lets through. An ill-formed
command still has its meaning: it changes nothing, or its frame is treated by what it is. -/

namespace Sys2Proof

/-- Whether a number names one of k things counted from 1. -/
def numbered (k n : Nat) : Bool := decide (1 ≤ n) && decide (n ≤ k)

/-- Whether a MAC keeps a frame: a right check sequence and 64 to 1518 bytes (R180). -/
def Frame.kept (f : Frame) : Bool := f.fcsGood && decide (64 ≤ f.length) && decide (f.length ≤ 1518)

/-- The well-formedness of a command. -/
def Instr.wellFormed : Instr → Bool
  | .idleCountdownExpiry l => numbered 12 l
  | .resendCountdownExpiry p => numbered 14 p
  | .barrierCountdownExpiry l => numbered 12 l
  | .blockIdleCountdownExpiry b => numbered 32 b
  | .stagingLimitTimeout v => numbered 65535 v
  | .frameDiscard _ f => !f.kept
  | .malformedMessage _ f => f.kept
  | .passThroughFrame _ f => f.kept
  | .laneReport f => f.kept
  | .uplinkLaneCommand f => f.kept
  | .yardState f => f.kept
  | .mgmtRequest f => f.kept
  | .coldReset _ _ => true
  | .coldSweepComplete => true
  | .secondEvent => true
  | .plateRead => true
  | .containerRead => true
  | .credentialRead => true
  | .bookingEntry => true
  | .sealRead => true
  | .damagePanel => true
  | .signal => true
  | .shown => true
  | .passed => true
  | .checkStart => true
  | .tableStoreGrant => true
  | .bookingLookup => true
  | .indexLookup => true
  | .confirm => true
  | .uplinkTransmitDone => true
  | .laneTransmitDone => true
  | .badRequest => true
  | .stationWrite => true
  | .stationRead => true
  | .codeWrite => true
  | .codeRead => true
  | .watchWrite => true
  | .watchRead => true
  | .windowWrite => true
  | .windowDelete => true
  | .windowRead => true
  | .blockWrite => true
  | .blockTune => true
  | .blockDisable => true
  | .blockRead => true
  | .bookingWrite => true
  | .bookingCancel => true
  | .bookingDelete => true
  | .bookingRead => true
  | .paramWrite => true
  | .paramRead => true
  | .setPartition => true
  | .clearComplete => true
  | .timeSet => true
  | .laneOpen => true
  | .laneStop => true
  | .laneFlush => true
  | .visitRead => true
  | .visitRelease => true
  | .visitReject => true
  | .sendUrgent => true
  | .barrierClear => true
  | .noticeAck => true
  | .alertRead => true
  | .countersRead => true
  | .reportHold => true
  | .reportResume => true
  | .warmReset => true
  | .identify => true
  | .managementAccessComplete => true

end Sys2Proof
end

