-- ==== Sys2Proof/Tests/Slice0.lean ====
section
/-! SUPPORT. Tests: the worked cases of the spec, the refusals of WellFormed, one step on small states, and for each
statement with hypotheses a witness that meets them (`witness_<statement>`), with boundary values for its clauses. -/

namespace Sys2Proof.Tests

open Sys2Proof Sys2Proof.Machine

/-! ### Small values and states -/

/-- A text from its character codes. -/
def txt (q : List Nat) : Text := q.map (BitVec.ofNat 8)

/-- GATU2045180, GATU2045195 and GATU2045190 (section 2.5.1). -/
def gatu180 : Text := txt [71, 65, 84, 85, 50, 48, 52, 53, 49, 56, 48]
def gatu195 : Text := txt [71, 65, 84, 85, 50, 48, 52, 53, 49, 57, 53]
def gatu190 : Text := txt [71, 65, 84, 85, 50, 48, 52, 53, 49, 57, 48]

/-- KR7 and KR77. -/
def kr7 : Text := txt [75, 82, 55]
def kr77 : Text := txt [75, 82, 55, 55]

/-- The part after reset with the cold sweep done. -/
def running : State :=
  { State.reset with
    mgmt := { State.reset.mgmt with unit := .idle }, store := { State.reset.store with granted := none } }

/-- Lane 1 OPEN; stations 1 DISPLAY, 2 BARRIER and 3 SENSOR at point 1, 4 DISPLAY at point 13, 5 SENSOR at point 14. -/
def gate : State :=
  { running with
    intake := { running.intake with
      stations := ((((running.intake.stations.set 0 (some ⟨1, 0, .display⟩)).set 1 (some ⟨2, 0, .barrier⟩)).set 2
        (some ⟨3, 0, .sensor⟩)).set 3 (some ⟨4, 12, .display⟩)).set 63 (some ⟨5, 13, .sensor⟩) }
    asm := { running.asm with lanes := running.asm.lanes.set 0 ⟨.opened, none, none⟩ } }

/-- A state with a request as the oldest of the queue, under tag 7. -/
def asked (m : MgmtRequest) (s : State) : State :=
  { s with mgmt := { s.mgmt with unit := .idle, queue := [⟨7, encRequest m⟩] } }

theorem asked_takes {m : MgmtRequest} (s : State) (h : request? (encRequest m) = some m) : (asked m s).takes 7 m [] :=
  ⟨rfl, _, rfl, h⟩

/-- A state with one report in the intake queue. -/
def reported (st : Nat) (b : ReportBody) (s : State) : State :=
  { s with intake := { s.intake with queue := [⟨st, b⟩] } }

theorem reported_reads {s : State} (b : ReportBody) (h : s.stationOf 3 = some ⟨3, 0, .sensor⟩) :
    (reported 3 b s).reads 3 b [] 0 :=
  ⟨rfl, _, h, by decide⟩

/-- A visit put into record r. -/
def withVisit (r : RecNo) (v : Visit) (s : State) : State := s.modVisit r (fun _ => v)

/-- The gate with visit 1 ASSEMBLING on lane 1 in record 0, n reports taken for it. -/
def assembling (n : Nat) : State :=
  withVisit 0 { number := 1, state := .assembling, fragments := n }
    { gate with
      asm := { gate.asm with
        lanes := gate.asm.lanes.set 0 ⟨.opened, some 0, some 30⟩, freeList := gate.asm.freeList.tail } }

/-- A frame of the selected type. -/
def framed (payload : List Byte) : Frame := ⟨0, 0, 0x88B5#16, payload, true⟩

/-- A message in a frame of legal length. -/
def message (cls station : Nat) (body : List Byte) : Frame :=
  framed (encPayload cls station 0 7 body (List.replicate 46 0))

/-- The state a command answers. -/
def after (c : Instr) (s : State) : State :=
  match exec c s with
  | .next t => t
  | _ => s

/-! ### Ill-formed commands are refused by WellFormed -/

theorem test_wellFormed_numbers :
    Instr.wellFormed (.idleCountdownExpiry 0) = false ∧ Instr.wellFormed (.idleCountdownExpiry 13) = false
      ∧ Instr.wellFormed (.resendCountdownExpiry 0) = false ∧ Instr.wellFormed (.resendCountdownExpiry 15) = false
      ∧ Instr.wellFormed (.barrierCountdownExpiry 0) = false ∧ Instr.wellFormed (.barrierCountdownExpiry 13) = false
      ∧ Instr.wellFormed (.blockIdleCountdownExpiry 0) = false ∧ Instr.wellFormed (.blockIdleCountdownExpiry 33) = false
      ∧ Instr.wellFormed (.stagingLimitTimeout 0) = false ∧ Instr.wellFormed (.stagingLimitTimeout 65536) = false
      ∧ Instr.wellFormed (.stagingLimitTimeout 65535) = true := by decide

theorem test_wellFormed_frames :
    Instr.wellFormed (.frameDiscard .lane (framed (List.replicate 46 0))) = false
      ∧ Instr.wellFormed (.frameDiscard .lane (framed (List.replicate 45 0))) = true
      ∧ (∀ f ∈ [framed (List.replicate 45 0), { framed (List.replicate 46 0) with fcsGood := false }],
          Instr.wellFormed (.malformedMessage .lane f) = false ∧ Instr.wellFormed (.passThroughFrame .uplink f) = false
            ∧ Instr.wellFormed (.laneReport f) = false ∧ Instr.wellFormed (.uplinkLaneCommand f) = false
            ∧ Instr.wellFormed (.yardState f) = false ∧ Instr.wellFormed (.mgmtRequest f) = false) := by decide

/-! ### Worked cases of the spec -/

/-- Section 2.5.1. -/
theorem test_check_digit :
    verified gatu180 = true ∧ verified gatu195 = true ∧ verified gatu190 = false ∧ verified (gatu180.take 10) = false
      ∧ verified (txt [71, 65, 55, 85, 50, 48, 52, 53, 49, 56, 48]) = false := by decide

/-- Section 3.4.1. -/
theorem test_key_and_bucket :
    containerKey gatu180 = some 105970204518 ∧ containerKey gatu195 = containerKey gatu190
      ∧ (105970204518 % bucketCount 1, 105970204518 % bucketCount 2, 105970204518 % bucketCount 0) = (3942, 1894, 8038) := by
  decide

/-- TABLE 5-4. -/
theorem test_window_judgement :
    let w : Option SlotReading → Reading := fun x => ⟨5001, false, x, none⟩
    windowJudgement (w (some ⟨2, 1, .closed⟩)) 4999 = .expired ∧ windowJudgement (w (some ⟨2, 1, .past⟩)) 5000 = .late
      ∧ windowJudgement (w (some ⟨2, 1, .current⟩)) 5001 = .onTime
      ∧ windowJudgement (w (some ⟨2, 1, .future⟩)) 5003 = .early ∧ windowJudgement (w none) 5004 = .expired
      ∧ windowJudgement (w (some ⟨2, 1, .future⟩)) 5004 = .tooEarly := by decide

/-- A line that expects seals. -/
def lineWith (seals : List Text) : BookingLine :=
  { direction := .drop, container := some gatu180, sizeClass := 40, load := .full, seals := seals, hold := false,
    primary := 6, alternate := none }

/-- TABLE 6-2. -/
theorem test_seal_verdicts :
    let a := txt [65]
    let b := txt [66]
    let c := txt [67]
    judgeSeals [⟨a, false⟩] (some (lineWith [a])) = .isMatch
      ∧ judgeSeals [⟨b, false⟩, ⟨a, false⟩] (some (lineWith [a, b])) = .isMatch
      ∧ judgeSeals [⟨a, false⟩, ⟨c, false⟩] (some (lineWith [a])) = .extra
      ∧ judgeSeals [] (some (lineWith [a])) = .missing ∧ judgeSeals [⟨a, false⟩] (some (lineWith [a, b])) = .mismatch
      ∧ judgeSeals [⟨a, true⟩] (some (lineWith [a])) = .tamper ∧ judgeSeals [] (some (lineWith [])) = .isMatch
      ∧ judgeSeals [⟨c, false⟩] (some (lineWith [])) = .extra ∧ judgeSeals [⟨c, false⟩] none = .unchecked
      ∧ judgeSeals [⟨c, true⟩] none = .tamper := by decide

/-- TABLE 6-4 and its variations. -/
theorem test_damage_verdicts :
    let q : Params := { weights := ⟨2, 3, 4, 4, 1, 5⟩ }
    judgeDamage ⟨some 0, some 3, some 2, some 0, some 0, some 4⟩ q = (some 37, .note)
      ∧ judgeDamage ⟨some 0, some 3, some 2, some 0, some 0, some 6⟩ q = (some 47, .survey)
      ∧ judgeDamage ⟨some 0, some 3, some 2, some 0, some 0, some 4⟩ { } = (some 9, .clean)
      ∧ judgeDamage ⟨none, none, none, none, none, none⟩ q = (none, .unscanned)
      ∧ judgeDamage ⟨some 0, none, none, none, none, none⟩ q = (some 0, .clean) := by decide

/-- A visit with a verdict, one position's seal and damage verdicts, and marks. -/
def judged (x : BookingVerdict) (x2 : SealVerdict) (d : DamageVerdict) (m : Marks) : Visit :=
  { verdict := some x, pos1 := { sealVerdict := some x2, damageVerdict := some d }, marks := m }

/-- TABLE 6-10. -/
theorem test_outcomes :
    (judged .onTime .isMatch .clean { }).decidedOutcome true = .admitted
      ∧ (judged .late .missing .clean { }).decidedOutcome true = .inspection
      ∧ (judged .late .missing .clean { gap := true }).decidedOutcome true = .trouble
      ∧ (judged .onTime .isMatch .unscanned { }).decidedOutcome true = .admitted
      ∧ (judged .onTime .isMatch .unscanned { gap := true }).decidedOutcome true = .trouble
      ∧ (judged .tooEarly .isMatch .clean { overflow := true }).decidedOutcome true = .trouble
      ∧ (judged .tooEarly .isMatch .clean { }).decidedOutcome true = .turnedAway
      ∧ (judged .walkIn .unchecked .note { }).decidedOutcome false = .admitted
      ∧ (judged .cancelled .isMatch .survey { }).decidedOutcome true = .inspection
      ∧ (judged .onTime .isMatch .clean { plateConflict := true }).decidedOutcome false = .admitted
      ∧ ({ verdict := some .walkInRefused, strongest := some .hold, marks := { overflow := true } } : Visit).decidedOutcome
          false = .inspection
      ∧ (judged .early .tamper .clean { gap := true, conflict := true }).decidedOutcome true = .inspection := by decide

/-- TABLE 7-3. -/
def block7 : BlockParams :=
  { pdr := 960, mdr := 160, idr := 480, ais := 48, df := 64, mrl := 8, burst := 2, idleReset := 600 }

/-- TABLE 7-4, and the clamps and the tuning after it. -/
theorem test_block7_rates :
    let b := YardBlock.fresh block7
    let c := b.feedback true false none
    (b.adr, c.adr, (c.feedback false false (some 400)).adr) = (480, 360, 400)
      ∧ ({ b with adr := 400, dsf := 8 }.missed).adr = 300 ∧ ({ b with adr := 170 }.feedback true false none).adr = 160
      ∧ ({ b with adr := 400, credit := 115200, idleCountdown := 306 }.tuned
          { block7 with burst := 1, idr := 240, pdr := 320 })
        = { b with params := { block7 with burst := 1, idr := 240, pdr := 320 }, adr := 320, credit := 57600, idleCountdown := 306 }
      ∧ ({ b with adr := 400, credit := 115000 }.accrued).credit = 115200 := by decide

/-- R98's own example. -/
theorem test_watch_key :
    let k := WatchKey.text kr77 4
    k.equals (.text kr77) = true ∧ k.equals (.text (kr77 ++ txt [51, 48])) = true ∧ k.equals (.text kr7) = false := by decide

/-- TABLE 11-6's lengths: a report body, and IDENTIFY's results. -/
theorem test_layout_lengths :
    (encReport ⟨0, 0, { }⟩).length = 219
      ∧ (encRequest (.blockWrite 7 block7)).length = 15 ∧ (encLaneCounters State.reset.mgmt.laneCounters).length = 384 := by
  decide +kernel

/-- The key number of the byte order: most significant byte first (TABLE 11-2). -/
theorem test_byte_order : encRequest (.timeSet 0x01020304) = [21, 1, 2, 3, 4] := by decide

/-! ### One step each -/

theorem test_first_read_opens_record_0 :
    let t := after .plateRead (reported 3 (.plate kr77 90) gate)
    (t.visit 0).number = 1 ∧ (t.visit 0).plate = some ⟨kr77, 90⟩ ∧ (t.lane 0).openVisit = some 0
      ∧ (t.lane 0).idleCountdown = some 30 := by decide +kernel

theorem test_two_verified_reads_conflict :
    let s := withVisit 0 { number := 1, state := .assembling, fragments := 1,
                           pos1 := { container := some ⟨gatu180, true, 40, 90⟩ } } (assembling 1)
    let t := after .containerRead (reported 3 (.container 1 gatu195 40 99) s)
    (t.visit 0).marks.conflict = true ∧ ((t.visit 0).pos1.container.map Container.number) = some gatu180 := by decide

theorem test_second_event_closes_idle_visit :
    let s : State := { assembling 1 with asm := { (assembling 1).asm with lanes := gate.asm.lanes.set 0 ⟨.opened, some 0, some 1⟩ } }
    let t := after .secondEvent s
    (t.visit 0).state = .checking ∧ (t.visit 0).closedAt = some 1 ∧ t.check.queue = [0] := by decide +kernel

theorem test_block_write_starts_at_idr :
    let t := after .blockWrite (asked (.blockWrite 7 block7) running)
    t.block 6 = YardBlock.fresh block7 ∧ t.ports.uplinkSending = some (.response ⟨7, 10, .ok, .none⟩) := by decide

theorem test_time_set_answers_both_values :
    (after .timeSet (asked (.timeSet 4294967295) running)).ports.uplinkSending
      = some (.response ⟨7, 21, .ok, .times 0 4294967295⟩) := by decide

theorem test_reset_runs_the_cold_sweep_only :
    (after .coldSweepComplete State.reset).mgmt.unit = .idle ∧ step State.reset = .next State.reset :=
  ⟨by decide, rfl⟩

/-! ### Witnesses: the machine, the ports, the notices, the resets -/

theorem witness_StepRunsTheFrontCommand :
    ({ running with pending := [.secondEvent] } : State).pending = [.secondEvent] ∧ running.pending = [] := by decide

/-- A report of a visit, and a bridged frame. -/
def report1 : VisitReport := ⟨0, 0, { number := 1 }⟩
def bridgedFrame : Frame := { framed (List.replicate 46 0) with etherType := 0x0800 }

/-- A barrier command and a direction waiting at the LANE port. -/
def placed (urgent : Bool) : LaneSender := ⟨urgent, .direction 1 0 { kind := .text } 0⟩
def raising : LaneSender := ⟨false, .barrierRaise 2 0 1⟩

/-- The running part with other ports or other reports. -/
def withPorts (p : Ports) : State := { running with ports := p }
def withReports (q : List VisitReport) (w : List RecNo) (hold : Bool) (s : State) : State :=
  { s with mgmt := { s.mgmt with reportQueue := q, reportWait := w, hold := hold } }

theorem witness_PortsServeByRank :
    (withPorts { running.ports with uplinkSending := some .bridged, laneSending := some .bridged }).ports.uplinkSending
        = some .bridged
      ∧ (∃ r, (withPorts { running.ports with responsePlace := some r }).ports.responsePlace = some r
          ∧ (withPorts { running.ports with responsePlace := some r }).ports.uplinkSending = none)
      ∧ (let s := running.startNotice
         s.ports.uplinkSending = none ∧ s.ports.responsePlace = none ∧ s.mgmt.noticeWaiting = true)
      ∧ (let s := withPorts { running.ports with reportPlace := some ⟨report1, true⟩ }
         s.mgmt.noticeWaiting = false ∧ s.ports.reportPlace = some ⟨report1, true⟩)
      ∧ (let s := withReports [report1] [] false running
         s.ports.reportPlace = none ∧ s.mgmt.hold = false ∧ s.mgmt.reportQueue = [report1])
      ∧ (let s := withReports [report1] [] true (withPorts { running.ports with laneToUplink := [bridgedFrame] })
         s.mgmt.hold = true ∧ s.ports.reportPlace = none ∧ s.ports.laneToUplink = [bridgedFrame])
      ∧ (let s := withPorts { running.ports with laneToUplink := [bridgedFrame] }
         s.mgmt.reportQueue = [] ∧ s.ports.laneToUplink = [bridgedFrame])
      ∧ (let s := withPorts { running.ports with lanePlaces := [raising, placed true, raising] }
         s.ports.laneSending = none ∧ s.ports.lanePlaces = [raising] ++ placed true :: [raising]
           ∧ (∀ y ∈ [raising], y.urgent = false) ∧ (placed true).urgent = true)
      ∧ (∀ y ∈ [raising, placed false], y.urgent = false)
      ∧ (let s := withPorts { running.ports with uplinkToLane := [bridgedFrame] }
         s.ports.lanePlaces = [] ∧ s.ports.uplinkToLane = [bridgedFrame]) := by
  refine ⟨by decide, ⟨⟨7, 1, .ok, .none⟩, by decide⟩, ?_⟩
  decide

/-- The cases of the clauses on the report place: what the transmitter sends, and what keeps the oldest report back. -/
theorem witness_PortsServeByRank_report_place :
    (∀ u ∈ [UplinkFrame.bridged, .notice { } 0, .report ⟨report1, false⟩],
        let s := withReports [report1] [] false (withPorts { running.ports with uplinkSending := some u })
        s.ports.uplinkSending ≠ none ∧ s.mgmt.hold = false ∧ s.ports.reportPlace = none
          ∧ s.ports.uplinkSending ≠ some (.report ⟨report1, true⟩) ∧ s.mgmt.reportQueue = report1 :: [])
      ∧ (let s := (withReports [report1] [] false running).startNotice
         s.mgmt.noticeWaiting = true ∧ s.ports.uplinkSending = none ∧ s.ports.reportPlace = none)
      ∧ (let s := withReports [report1] [] true (withPorts { running.ports with uplinkSending := some .bridged })
         s.ports.uplinkSending ≠ none ∧ s.mgmt.hold = true ∧ s.mgmt.reportQueue ≠ [])
      ∧ (let s := withReports [report1] [] false
           (withPorts { running.ports with uplinkSending := some .bridged, reportPlace := some ⟨report1, true⟩ })
         s.ports.uplinkSending ≠ none ∧ s.ports.reportPlace ≠ none)
      ∧ (let s := withReports [report1] [] false
           (withPorts { running.ports with uplinkSending := some (.report ⟨report1, true⟩) })
         s.ports.uplinkSending = some (.report ⟨report1, true⟩) ∧ s.ports.reportPlace = none)
      ∧ (∀ x ∈ [true, false], ∀ q ∈ [[], [report1]], ∀ h ∈ [true, false],
         let s := withReports q [] h (withPorts { running.ports with reportPlace := some ⟨report1, x⟩ })
         s.ports.reportPlace = some ⟨report1, x⟩ ∧ s.ports.uplinkSending = none ∧ s.ports.responsePlace = none
           ∧ s.mgmt.noticeWaiting = false ∧ s.mgmt.hold = h ∧ s.mgmt.reportQueue = q) := by decide

/-- R175, R176: a report handed as a cut-off one leaves the place is sent, though a REPORT_HOLD comes next. -/
theorem test_report_handed_when_a_cut_off_one_leaves :
    let s := withReports [report1] [] false (withPorts { running.ports with reportPlace := some ⟨report1, false⟩ })
    let t := after .reportHold (asked .reportHold s.settle)
    s.settle.ports.reportPlace = some ⟨report1, true⟩ ∧ t.mgmt.hold = true
      ∧ t.ports.reportPlace = some ⟨report1, true⟩ := by decide

theorem witness_TransmittersFinishTheirFrames :
    (∀ u ∈ [UplinkFrame.response ⟨7, 1, .ok, .none⟩, .notice { } 0, .report ⟨report1, false⟩],
        (withPorts { running.ports with uplinkSending := some u }).ports.uplinkSending = some u)
      ∧ (let s := withPorts { running.ports with uplinkSending := some .bridged, laneToUplink := [bridgedFrame] }
         s.ports.uplinkSending = some .bridged ∧ s.ports.laneToUplink = [bridgedFrame])
      ∧ (∀ w ∈ [[], [(3 : RecNo)]],
         let s := withReports [report1] w false
           (withPorts { running.ports with uplinkSending := some (.report ⟨report1, true⟩) })
         s.ports.uplinkSending = some (.report ⟨report1, true⟩) ∧ s.mgmt.reportQueue = [report1] ∧ s.mgmt.reportWait = w)
      ∧ (∀ n ∈ [10, 11, 15],
         let s := withReports (report1 :: List.replicate n report1) [3] false
           (withPorts { running.ports with uplinkSending := some (.report ⟨report1, true⟩) })
         s.mgmt.reportQueue = report1 :: List.replicate n report1 ∧ s.mgmt.reportWait = 3 :: []
           ∧ (11 ≤ (List.replicate n report1).length ∨ (List.replicate n report1).length < 11)
           ∧ s.mgmt.flags.has .reportQueueHigh = false ∧ s.mgmt.mask.has .reportQueueHigh = true)
      ∧ (let s := withPorts { running.ports with laneSending := some (.command raising.command) }
         s.ports.laneSending = some (.command raising.command))
      ∧ (let s := withPorts { running.ports with laneSending := some .bridged, uplinkToLane := [bridgedFrame] }
         s.ports.laneSending = some .bridged ∧ s.ports.uplinkToLane = [bridgedFrame]) := by decide

theorem witness_CountersSaturateAndEventsRaiseOnce :
    (running.raise .heldVisit).mgmt.flags.has .heldVisit = true ∧ running.mgmt.flags.has .heldVisit = false := by decide

theorem witness_NoticeAckClearsAndReraises :
    (∀ w ∈ [0, 2, 511, 65535], (asked (.noticeAck w) running).takes 7 (.noticeAck w) [])
      ∧ (withReports (List.replicate 12 report1) [] false running).levelHolds .reportQueueHigh = true
      ∧ (withReports (List.replicate 11 report1) [] false running).levelHolds .reportQueueHigh = false := by
  refine ⟨fun w hw => asked_takes _ ?_, by decide⟩
  revert w
  decide

theorem witness_WarmResetSetsEveryBlock :
    (asked .warmReset running).takes 7 .warmReset []
      ∧ (let s : State := { asked .warmReset running with
           store := { running.store with granted := some (.check (.lookupIndex 4095) false) } }
         s.store.granted = some (.check (.lookupIndex 4095) false))
      ∧ (asked .warmReset running).store.granted = none
      ∧ (∀ u ∈ [UplinkFrame.response ⟨7, 1, .ok, .none⟩, .notice { } 0, .report ⟨report1, true⟩, .bridged],
         (withPorts { running.ports with uplinkSending := some u }).ports.uplinkSending = some u)
      ∧ (∀ x ∈ [true, false], (withPorts { running.ports with reportPlace := some ⟨report1, x⟩ }).ports.reportPlace
          = some ⟨report1, x⟩)
      ∧ running.ports.uplinkSending = none :=
  ⟨asked_takes _ (by decide), by decide⟩

/-! ### Witnesses: the second event and the countdowns -/

/-- A ring with the window of period 5001 in its slot and that of the next. -/
def win (p start booked : Nat) : Window := ⟨p, start, 3600, 2, booked, 0, 1, 0, 2, 1⟩
def ringAt (arrival : Nat) (gap : Bool) : Ring :=
  { slots := ((Vector.replicate 96 none).set 9 (some (win 5001 0 0))).set 10 (some (win 5002 3600 2))
    arrival := arrival, gap := gap }

theorem witness_SecondEventDoesItsWork :
    (let r := ringAt 5001 false
     r.gap = false ∧ (r.window? 5001).isSome = true ∧ (r.window? 5002).map Window.start = some 3600
       ∧ (r.window? 5003) = none)
      ∧ ((ringAt 5001 true).gap = true)
      ∧ (running.block 31).active = false ∧ running.pacer.staged = [] ∧ running.pacer.laneWait = []
      ∧ (let s := running.modBlock 31 (fun _ => { YardBlock.fresh block7 with idleCountdown := 1 })
         (s.block 31).active = true ∧ (s.block 31).params.idleReset ≠ 0 ∧ (s.block 31).idleCountdown = 1)
      ∧ ((assembling 1).lane 0).idleCountdown = some 30 ∧ ((assembling 1).lane 0).openVisit = some 0
      ∧ ((assembling 1).lane 1).idleCountdown = none
      ∧ (((assembling 1).modLane 0 (fun x => { x with idleCountdown := some 1 })).lane 0).idleCountdown = some 1
      ∧ (((assembling 1).modLane 0 (fun x => { x with idleCountdown := some 2 })).lane 0).idleCountdown = some 2 := by
  decide

/-- The clock and arrival cases of the second event's ring clauses. -/
theorem witness_SecondEvent_ring_cases :
    let started : Ring → Nat → Bool := fun r t => r.nextStarted t
    let lasts : Ring → Nat → Bool := fun r t => (r.window? r.arrival).any (fun w => decide (t < w.start + w.length))
    (started (ringAt 5001 false) 3600 = true ∧ lasts (ringAt 5001 false) 3600 = false)
      ∧ (started (ringAt 5001 false) 3599 = false ∧ lasts (ringAt 5001 false) 3599 = true)
      ∧ (started (ringAt 5002 false) 7200 = false ∧ lasts (ringAt 5002 false) 7200 = false)
      ∧ started (ringAt 5000 true) 0 = true ∧ started (ringAt 4999 true) 0 = false := by decide

/-- A visit's direction in display at lane 1's point, with n resends made and c seconds to the next. -/
def shownAt (n c : Nat) (s : State) : State :=
  s.modPoint 0 (fun _ =>
    { queue := [⟨{ kind := .wait, visit := some 1 }, true⟩], sequence := 1, displaySequence := some 0
      resendCountdown := some c, resendCount := n })

/-- A staged entry of a visit. -/
def stagedEntry (n : Nat) (x : StagedAt) (waited : Nat) : StagedEntry := ⟨n, 6, none, x, waited, false, false⟩

/-- The cases of a block's share of the second event, with a truck staged for it: DISABLED, and ACTIVE at each idle step. -/
theorem witness_SecondEvent_block_cases :
    let s := running.setStaged [stagedEntry 1 .bay 0]
    (s.block 6).active = false
      ∧ ∀ n ∈ [0, 1, 2], ∀ z ∈ [0, 600],
          let x := { YardBlock.fresh { block7 with idleReset := z } with idleCountdown := n, credit := 57600 }
          ((s.modBlock 6 (fun _ => x)).block 6) = x ∧ x.active = true := by decide

/-- The staging, resend and barrier cases of the second event. -/
theorem witness_SecondEvent_staging_and_engine :
    (∀ w ∈ [1798, 1799, 65535], let s := running.setStaged [stagedEntry 1 .bay w]
      (1799 ≤ w ↔ ∃ e ∈ s.pacer.staged, e.released = false ∧ e.timedOut = false
          ∧ s.mgmt.params.stagingLimit ≤ min (e.waited + 1) 65535)
        ∧ (∀ b : BlockNo, (s.block b).active = true →
            min ((s.block b).credit + (s.block b).adr) ((s.block b).params.burst * 57600) < 57600)
        ∧ (∀ p : Point, (s.point p).resendCountdown = none))
      ∧ (∀ n ∈ [0, 1, 2, 3], let s := shownAt 2 n (assembling 1)
          (s.point 0).displayed? = some (({ kind := .wait, visit := some 1 } : Direction), false)
            ∧ (s.point 0).resendCountdown = some n ∧ s.displayStation 0 = some 1 ∧ (s.point 0).displaySequence = some 0
            ∧ (s.point 0).resendCount < s.mgmt.params.resendLimit
            ∧ (shownAt 3 n (assembling 1)).mgmt.params.resendLimit ≤ ((shownAt 3 n (assembling 1)).point 0).resendCount
            ∧ (s.visit 0).state ≠ .free ∧ (∀ i : RecNo, (s.visit i).number = 1 ↔ i = 0))
      ∧ ((shownAt 0 1 running).displayStation 0 = none)
      ∧ (∀ n ∈ [0, 1, 2], let s := running.modBarrier 11 (fun _ => ⟨true, some n⟩)
          (s.barrier 11).raising = true ∧ (s.barrier 11).countdown = some n) := by decide +kernel

theorem witness_CountdownsExpire :
    (∀ c ∈ [0, 1], let s := (assembling 1).modLane 0 (fun x => { x with idleCountdown := some c })
      (s.lane 0).idleCountdown = some c ∧ (s.lane 0).openVisit = some 0)
      ∧ ((running.modBarrier 11 (fun _ => ⟨true, some 1⟩)).barrier 11).countdown = some 1
      ∧ (let s := running.modBlock 0 (fun _ => { YardBlock.fresh block7 with idleCountdown := 1 })
         (s.block 0).active = true ∧ (s.block 0).params.idleReset ≠ 0 ∧ (s.block 0).idleCountdown = 1)
      ∧ (let e := stagedEntry 9 .bay 1799
         let s := running.setStaged ([stagedEntry 8 .bay 0] ++ e :: [])
         s.pacer.staged = [stagedEntry 8 .bay 0] ++ e :: [] ∧ (∀ x ∈ [stagedEntry 8 .bay 0] ++ [], x.visit ≠ e.visit)
           ∧ e.released = false ∧ e.timedOut = false ∧ s.mgmt.params.stagingLimit ≤ min (e.waited + 1) 65535)
      ∧ (∀ n ∈ [2, 3], let s := shownAt n 1 gate
         (s.point 0).resendCountdown = some 1
           ∧ (s.point 0).displayed? = some (({ kind := .wait, visit := some 1 } : Direction), false)
           ∧ (s.point 0).displaySequence = some 0 ∧ s.displayStation 0 = some 1 ∧ (shownAt n 1 running).displayStation 0 = none)
      ∧ (2 < (shownAt 2 1 gate).mgmt.params.resendLimit ∧ (shownAt 3 1 gate).mgmt.params.resendLimit ≤ 3) := by decide

/-! ### Witnesses: frames and lane reports -/

/-- A frame of the selected type is accepted with the message its payload carries. -/
theorem framed_accepts {p : List Byte} {m : Message} (s : State) (n : p.length = 54 ∨ p.length = 47 ∨ p.length = 58)
    (t : s.mgmt.typeHigh = false) (h : message? p = some m) : s.accepts (framed p) m := by
  refine ⟨rfl, ?_, ?_, by rw [t]; rfl, h⟩ <;> simp only [Frame.length, framed] <;> omega

/-- A payload of 54 or more bytes for a body. -/
def payload54 (cls station : Nat) (body : List Byte) : List Byte :=
  encPayload cls station 0 7 body (List.replicate (46 - body.length) 0)

theorem witness_FramesAreDroppedOrBridged :
    (∀ f ∈ [{ framed (List.replicate 46 0) with fcsGood := false }, framed (List.replicate 45 0)],
        f.fcsGood = false ∨ f.length < 64 ∨ 1518 < f.length)
      ∧ (framed (List.replicate 1501 0)).length = 1519 ∧ (framed (List.replicate 1500 0)).length = 1518
      ∧ (let f := framed (List.replicate 46 0)
         f.fcsGood = true ∧ 64 ≤ f.length ∧ f.length ≤ 1518 ∧ f.etherType = running.selectedType ∧ byteAt f.payload 0 ≠ 1)
      ∧ running.accepts (framed (payload54 5 0 [1])) .other
      ∧ running.accepts (framed (payload54 1 3 (encReportBody (.signal 1)))) (.laneReport ⟨3, .signal 1⟩)
      ∧ running.accepts (framed (payload54 2 0 (encCommand raising.command))) .laneCommand
      ∧ (bridgedFrame.fcsGood = true ∧ bridgedFrame.length = 64
          ∧ bridgedFrame.etherType ≠ (if running.mgmt.typeHigh then 0x88B6#16 else 0x88B5#16)
          ∧ running.ports.laneToUplink.length < 32
          ∧ 32 ≤ (withPorts { running.ports with laneToUplink := List.replicate 32 bridgedFrame
                                                 uplinkToLane := List.replicate 32 bridgedFrame }).ports.uplinkToLane.length) :=
  ⟨by decide, by decide +kernel, by decide +kernel, by decide, framed_accepts _ (by decide) rfl (by decide),
    framed_accepts _ (by decide) rfl (by decide), framed_accepts _ (by decide) rfl (by decide), by decide⟩

theorem witness_LaneReportsArrive :
    running.accepts (framed (payload54 1 255 (encReportBody .passed))) (.laneReport ⟨255, .passed⟩)
      ∧ running.intake.queue.length < 64
      ∧ (let s : State := { running with intake := { running.intake with queue := List.replicate 64 ⟨255, .passed⟩ } }
         s.accepts (framed (payload54 1 255 (encReportBody .passed))) (.laneReport ⟨255, .passed⟩)
           ∧ 64 ≤ s.intake.queue.length ∧ s.intake.overrun = false) :=
  ⟨framed_accepts _ (by decide) rfl (by decide), by decide, framed_accepts _ (by decide) rfl (by decide), by decide⟩

theorem witness_UplinkMessagesAreTaken :
    (∀ n ∈ [0, 1, 32, 33], running.accepts (framed (payload54 3 0 (encYardState n true false (some 65535))))
        (.yardState 0 n true false (some 65535)))
      ∧ running.accepts (framed (payload54 3 1 (encYardState 1 true false none))) (.yardState 1 1 true false none)
      ∧ (let s := running.modBlock 31 (fun _ => YardBlock.fresh block7)
         (s.block 31).written = true ∧ (s.block 31).active = true ∧ (running.block 31).written = false)
      ∧ running.accepts (framed (payload54 4 0 (encRequest .identify))) (.mgmtRequest 0 ⟨7, encRequest .identify⟩)
      ∧ running.mgmt.queue.length < 8
      ∧ 8 ≤ ({ running with mgmt := { running.mgmt with queue := List.replicate 8 ⟨7, [36]⟩ } } : State).mgmt.queue.length := by
  refine ⟨fun n hn => framed_accepts _ ?_ rfl ?_, framed_accepts _ (by decide) rfl (by decide), by decide,
    framed_accepts _ (by decide) rfl (by decide), by decide⟩ <;> revert n <;> decide

theorem witness_LaneReportLayouts :
    (∀ b ∈ [ReportBody.plate (List.replicate 11 90) 100, .container 255 gatu180 45 0, .credential kr7, .booking max32,
        .seal 0 kr7 true 100, .damage 2 .doors 7, .signal 255, .signal 1, .shown 255, .passed], b.legal = true)
      ∧ message? (payload54 1 255 (encReportBody .passed)) = some (.laneReport ⟨255, .passed⟩) := by decide

/-- A raw text of a text. -/
def raw (t : Text) : RawText := ⟨t.length, t ++ List.replicate (11 - t.length) 0⟩

/-- Raw lines that the field tests pass. -/
def rawDrop (n : Text) : RawLine := ⟨1, raw n, 40, 1, 1, [raw kr7, raw []], false, 1, 32⟩
def rawPick : RawLine := ⟨2, raw [], 20, 2, 0, [raw [], raw []], true, 32, 0⟩
def noLine : RawLine := ⟨0, raw [], 0, 0, 0, [raw [], raw []], false, 0, 0⟩

/-- A booking write with one DROP line, and one with two lines. -/
def rawOne (index : Nat) : RawBooking := ⟨index, 1, 5001, raw [], 1, rawDrop gatu180, noLine⟩
def rawTwo (index : Nat) : RawBooking := ⟨index, 524287, 5001, raw kr77, 2, rawDrop gatu180, rawDrop gatu195⟩

/-- A watch entry of a text kind as carried, and one of kind BOOKING. -/
def rawWatch (kind len mask action timing pred : Nat) (t : Text) : RawWatch := ⟨kind, raw t, 8193, len, mask, action, timing, pred⟩

/-- One request of every kind, some fields at their bounds. -/
def everyRequest : List MgmtRequest :=
  [.stationWrite 63 true 254 14 3, .stationRead 64, .codeWrite 7 255 2 false, .codeRead 8,
    .watchWrite 63 true (rawWatch 1 11 31 3 2 63 kr77), .watchRead 63, .windowWrite max32 0 300 4095 4095 7 7,
    .windowDelete max32, .windowRead 95, .blockWrite 32 block7, .blockTune 1 block7, .blockDisable 33, .blockRead 0,
    .bookingWrite (rawTwo 65535), .bookingCancel 4095 none, .bookingDelete 4096 (some 1), .bookingRead 0 (some max32),
    .paramWrite 18 2, .paramRead 19 65535, .setPartition 2, .timeSet max32, .laneOpen 12, .laneStop 13, .laneFlush 0,
    .visitRead 65535, .visitRelease 65535 (some 255), .visitReject 0, .sendUrgent 14 9 255 (some 65535) (some 255) none,
    .barrierClear 12, .noticeAck 65535, .alertRead 12, .countersRead true, .reportHold, .reportResume, .warmReset, .identify]

theorem witness_RequestsRoundTrip :
    (∀ m ∈ everyRequest, m.fits = true) ∧ everyRequest.length = 36 := by decide +kernel

/-- R188: PARAM_READ carries the number in 1 byte and the value in 2, as PARAM_WRITE does, and a body without it is bad. -/
theorem test_param_read_layout :
    encRequest (.paramRead 3 258) = [19, 3, 1, 2] ∧ request? [19, 3, 1, 2] = some (.paramRead 3 258)
      ∧ request? [19, 3] = none := by decide

theorem test_every_request_is_read_back : ∀ m ∈ everyRequest, request? (encRequest m) = some m := by decide +kernel

/-- WATCH_READ's fields that do not apply are absent: a reference 0, a mask width 0xFF; a text of length 0, a compare
length 0 (TABLES 6-5 and 11-2, log entry 9). -/
theorem test_watch_read_layout :
    (encWatch ⟨true, .plate, .text kr7 3, .hold, .atClose, none⟩)
        = txt ([1, 1, 3, 75, 82, 55, 0, 0, 0, 0, 0, 0, 0, 0] ++ [0, 0, 0, 0, 3, 255, 2, 2, 255])
      ∧ (encWatch ⟨true, .booking, .reference 8193 31, .note, .onArrival, some 63⟩)
        = txt ([1, 5] ++ List.replicate 12 0 ++ [0, 0, 32, 1, 0, 31, 1, 1, 63])
      ∧ (encWatch { }) = txt ([0, 0] ++ List.replicate 12 0 ++ [0, 0, 0, 0, 0, 255, 0, 0, 255]) := by decide

/-- A visit that fills every place of its report, its texts of 11 characters. -/
def fullVisit : Visit :=
  let d : PosData :=
    { container := some ⟨gatu180, true, 45, 100⟩, seals := List.replicate 3 ⟨gatu190, true⟩, panels := ⟨some 7, none, some 0, none, none, some 1⟩
      sealVerdict := some .tamper, damageScore := some 630, damageVerdict := some .survey }
  { number := 65535, state := .reporting, lane := 11, openedAt := max32, closedAt := some 1, closeReason := some .laneStop
    fragments := 65535, discarded := 258, marks := ⟨true, true, false, false, true, true⟩, plate := some ⟨gatu195, 100⟩
    credential := some gatu190, reference := some max32, pos1 := d, pos2 := { }, codes := [1, 2, 3, 255], hitSet := [0, 62, 63]
    hitList := List.replicate 4 ⟨63, .stopNow, .onArrival⟩, strongest := some .stopNow, verdict := some .walkInRefused
    bookingIndex := some 8191, outcome := some .inspection, dispatch := some 31, alternate := none, disposition := some .waitingInLane
    row := some 23, finalDisposition := some .turnedAway }

theorem fullVisit_fits : fullVisit.Fits := by
  simp [Visit.Fits, PosData.Fits, fullVisit, gatu180, gatu190, gatu195, txt]

/-- What a built body is made of, as a test: the fields' numbers, and no byte after the last. -/
def madeOf (b : List Byte) (i : Nat) : List (Nat × Nat) → Bool
  | [] => b.length == i
  | x :: rest => numberAt b i x.1 == x.2 % 256 ^ x.1 && madeOf b (i + x.1) rest

/-- TABLE 11-6 at the bounds of its fields. -/
theorem test_report_layout :
    madeOf (encReport ⟨65535, max32, fullVisit⟩) 0 (reportFields ⟨65535, max32, fullVisit⟩ (2 ^ 63 + 2 ^ 62 + 1)) = true
      ∧ madeOf (encReport ⟨0, 0, { }⟩) 0 (reportFields ⟨0, 0, { }⟩ 0) = true := by decide +kernel

theorem witness_BuiltMessageLayouts :
    (∀ u ∈ [UplinkFrame.response ⟨65535, 25, .ok, .none⟩, .report ⟨⟨65535, max32, fullVisit⟩, true⟩, .notice .all max32],
        (withPorts { running.ports with uplinkSending := some u }).ports.uplinkSending = some u)
      ∧ (∀ c ∈ [LaneCommand.direction 254 13 ⟨.text, some 65535, some 31, some 23, 255⟩ 255, .barrierRaise 254 11 65535],
        (withPorts { running.ports with laneSending := some (.command c) }).ports.laneSending = some (.command c))
      ∧ (let s := withPorts { running.ports with uplinkSending := some .bridged, laneToUplink := [bridgedFrame]
                                                 laneSending := some .bridged, uplinkToLane := [bridgedFrame] }
         s.ports.uplinkSending = some .bridged ∧ s.ports.laneToUplink = bridgedFrame :: []
           ∧ s.ports.laneSending = some .bridged ∧ s.ports.uplinkToLane = bridgedFrame :: [])
      ∧ running.ports.uplinkSending = none ∧ running.ports.laneSending = none
      ∧ fullVisit.Fits ∧ ({ } : Visit).Fits :=
  ⟨by decide, by decide, by decide, by decide, by decide, fullVisit_fits, by simp [Visit.Fits, PosData.Fits]⟩

theorem witness_ResponseLayouts :
    (Results.none).Fits ∧ (Results.visit fullVisit none).Fits
      ∧ (Results.watch ⟨true, .plate, .text gatu180 11, .hold, .atClose, none⟩).Fits := by
  refine ⟨by simp [Results.Fits], ⟨by simp, by simp, ?_⟩, ⟨?_, by simp, by simp⟩⟩
  · intro v p h
    cases h
    exact fullVisit_fits
  · intro e h t n k
    cases h
    cases k
    decide

/-! ### Witnesses: reports taken for a visit -/

/-- One mergeable body of each kind. -/
def mergeableBodies : List ReportBody :=
  [.plate kr77 100, .container 2 gatu180 40 100, .credential kr77, .booking 8192, .seal 1 kr7 true 40, .damage 2 .doors 7]

theorem witness_ReportsThatMergeNothing :
    ((reported 9 (.signal 1) gate).intake.queue = [⟨9, .signal 1⟩] ∧ (reported 9 (.signal 1) gate).stationOf 9 = none)
      ∧ (let e : Station := ⟨5, 13, .sensor⟩
         gate.stationOf 5 = some e ∧ pointLane? e.point = none ∧ e.role ≠ .display ∧ e.role ≠ .barrier)
      ∧ (gate.stationOf 1 = some ⟨1, 0, .display⟩ ∧ pointLane? 0 = some 0 ∧ (gate.lane 0).state = .opened
          ∧ (gate.lane 0).openVisit = none ∧ (running.lane 11).state = .closed)
      ∧ (let s : State := { gate with asm := { gate.asm with freeList := [] } }
         s.asm.freeList = [] ∧ (s.lane 0).state = .opened)
      ∧ (∀ b ∈ mergeableBodies, (reported 3 b (assembling 32)).reads 3 b [] 0 ∧ b.mergeable = true
          ∧ (reported 3 b (assembling 32)).mergesInto 0 0 33) := by
  refine ⟨by decide, by decide, by decide, by decide, fun b hb => ⟨reported_reads b (by decide), ?_, rfl, rfl,
    (by decide : 33 = satInc max16 ((assembling 32).visit 0).fragments)⟩⟩
  revert b
  decide

theorem witness_FirstReadOpensAVisit :
    (∀ b ∈ mergeableBodies, (reported 3 b gate).reads 3 b [] 0 ∧ b.mergeable = true
        ∧ ((reported 3 b gate).lane 0).state = .opened ∧ ((reported 3 b gate).lane 0).openVisit = none
        ∧ (reported 3 b gate).asm.freeList = 0 :: (List.finRange 48).tail)
      ∧ (let s : State := { gate with asm := { gate.asm with freeList := [43, 44, 45, 46, 47] } }
         s.asm.freeList = 43 :: [44, 45, 46, 47] ∧ [(44 : RecNo), 45, 46, 47].length ≤ 4)
      ∧ (∀ n ∈ [1, 65535], let s : State := { assembling 1 with asm := { (assembling 1).asm with nextNumber := n } }
         1 ≤ s.asm.nextNumber ∧ s.asm.nextNumber ≤ 65535 ∧ (s.visit 1).state = .free) := by
  refine ⟨fun b hb => ⟨reported_reads b (by decide), ?_,
    (by decide : (gate.lane 0).state = .opened), (by decide : (gate.lane 0).openVisit = none),
    (by decide : gate.asm.freeList = 0 :: (List.finRange 48).tail)⟩, by decide, by decide⟩
  revert b
  decide

/-- A report for the visit on lane 1, its 32nd. -/
theorem merging (b : ReportBody) (v : Visit) (h : v.fragments = 31) :
    (reported 3 b (withVisit 0 v (assembling 31))).reads 3 b [] 0
      ∧ (reported 3 b (withVisit 0 v (assembling 31))).mergesInto 0 0 32 := by
  refine ⟨reported_reads b (by decide : gate.stationOf 3 = some ⟨3, 0, .sensor⟩), rfl, rfl, ?_⟩
  have : ((reported 3 b (withVisit 0 v (assembling 31))).visit 0) = v := by
    show (withVisit 0 v (assembling 31)).visit 0 = v
    simp [withVisit]
  rw [this, h]
  decide

theorem witness_PlatesCredentialsReferencesMerge :
    (∀ c ∈ [39, 40, 41], (reported 3 (.plate kr77 c) (withVisit 0 { fragments := 31, plate := some ⟨kr7, 40⟩ } (assembling 31))).reads
        3 (.plate kr77 c) [] 0)
      ∧ 39 < (assembling 31).mgmt.params.confidenceFloor ∧ (assembling 31).mgmt.params.confidenceFloor ≤ 40
      ∧ (let v : Visit := { plate := some ⟨kr7, 40⟩, credential := some kr7, reference := some 8192 }
         (∃ k, v.plate = some k ∧ k.text ≠ kr77 ∧ k.confidence < 41) ∧ (∃ k, v.plate = some k ∧ (k.text = kr77 ∨ 40 ≤ k.confidence))
           ∧ v.credential = some kr7 ∧ v.credential ≠ some kr77 ∧ v.reference = some 8192 ∧ v.reference ≠ some 8193
           ∧ ({ } : Visit).plate = none)
      ∧ (∀ b ∈ [ReportBody.credential kr7, .booking 8191, .booking 8192],
          (reported 3 b (withVisit 0 { fragments := 31 } (assembling 31))).reads 3 b [] 0
            ∧ (reported 3 b (withVisit 0 { fragments := 31 } (assembling 31))).mergesInto 0 0 32)
      ∧ 8191 / 8192 = 0 ∧ 8192 / 8192 ≠ 0 :=
  ⟨fun c _ => (merging _ _ rfl).1, by decide, by decide,
    ⟨⟨⟨kr7, 40⟩, rfl, by decide, by decide⟩, ⟨⟨kr7, 40⟩, rfl, by decide⟩, rfl, by decide, rfl, by decide, rfl⟩,
    fun b _ => merging b _ rfl, by decide, by decide⟩

theorem witness_ContainerReadsMerge :
    (∀ p ∈ [0, 1, 2, 3], ∀ c ∈ [39, 40], ∀ old ∈ [none, some (⟨gatu190, false, 20, 41⟩ : Container), some ⟨gatu195, true, 20, 41⟩],
        (let v : Visit := { fragments := 31, pos1 := { container := old }, pos2 := { container := old } }
         (reported 3 (.container p gatu180 40 c) (withVisit 0 v (assembling 31))).reads 3 (.container p gatu180 40 c) [] 0
           ∧ (reported 3 (.container p gatu180 40 c) (withVisit 0 v (assembling 31))).mergesInto 0 0 32))
      ∧ (assembling 31).mgmt.params.confidenceFloor = 40
      ∧ (let k : Container := ⟨gatu195, true, 20, 41⟩
         k.number ≠ gatu180 ∧ k.verified = true ∧ verified gatu180 = true)
      ∧ (let k : Container := ⟨gatu190, false, 20, 41⟩
         k.number ≠ gatu180 ∧ k.verified = false ∧ verified gatu190 = false ∧ ¬ k.confidence < 41 ∧ k.confidence < 42) :=
  ⟨fun _ _ _ _ _ _ => merging _ _ rfl, by decide, by decide, by decide⟩

theorem witness_SealsAndPanels_cases :
    (∀ e ∈ ([] : List SealEntry), e.text ≠ kr7) ∧ (∃ e ∈ [(⟨kr7, false⟩ : SealEntry)], e.text = kr7)
      ∧ (∀ e ∈ List.replicate 3 (⟨kr77, false⟩ : SealEntry), e.text ≠ kr7)
      ∧ 3 ≤ (List.replicate 3 (⟨kr77, false⟩ : SealEntry)).length := by decide

theorem witness_SealsAndPanelsMerge :
    (∀ p ∈ [0, 1, 2, 3], ∀ c ∈ [39, 40], ∀ q ∈ [[], [⟨kr7, false⟩], List.replicate 3 (⟨kr77, false⟩ : SealEntry)],
        (let v : Visit := { fragments := 31, pos1 := { seals := q }, pos2 := { seals := q } }
         (reported 3 (.seal p kr7 true c) (withVisit 0 v (assembling 31))).reads 3 (.seal p kr7 true c) [] 0
           ∧ (reported 3 (.seal p kr7 true c) (withVisit 0 v (assembling 31))).mergesInto 0 0 32))
      ∧ (∀ p ∈ [0, 1, 2, 3], ∀ n ∈ [0, 7],
        (let v : Visit := { fragments := 31, pos1 := { panels := ⟨none, none, some 3, none, none, none⟩ } }
         (reported 3 (.damage p .left n) (withVisit 0 v (assembling 31))).reads 3 (.damage p .left n) [] 0
           ∧ (reported 3 (.damage p .left n) (withVisit 0 v (assembling 31))).mergesInto 0 0 32)) :=
  ⟨fun _ _ _ _ _ _ => merging _ _ rfl, fun _ _ _ _ => merging _ _ rfl⟩

/-- The lane code table with code 1 CLOSE, code 2 ALERT, then the end marker. -/
def coded (s : State) : State :=
  { s with intake := { s.intake with
      codes := (s.intake.codes.set 0 ⟨1, .close, false⟩).set 1 ⟨2, .alert, false⟩ } }

theorem witness_SignalCodesAct :
    (∀ n ∈ [1, 2, 3, 255], (reported 3 (.signal n) (coded gate)).reads 3 (.signal n) [] 0
        ∧ (reported 3 (.signal n) (coded (assembling 31))).reads 3 (.signal n) [] 0
        ∧ (reported 3 (.signal n) (coded (assembling 32))).reads 3 (.signal n) [] 0)
      ∧ [1, 2, 3, 255].map (fun n => (((coded gate).intake.codes.toList.takeWhile (fun e => !e.endMarker)).find?
          (fun e => e.code == n)).map CodeEntry.mode) = [some .close, some .alert, none, none]
      ∧ ((coded gate).lane 0).openVisit = none ∧ ((coded (assembling 31)).lane 0).openVisit = some 0
      ∧ min (((assembling 31).visit 0).fragments + 1) 65535 = 32 ∧ min (((assembling 32).visit 0).fragments + 1) 65535 = 33 :=
  ⟨fun n _ => ⟨reported_reads _ (by decide), reported_reads _ (by decide), reported_reads _ (by decide)⟩, by decide,
    by decide, by decide, by decide, by decide⟩

/-! ### Witnesses: displays, barriers, urgents, the watch table -/

/-- A direction for visit 1. -/
def waitDir : Direction := { kind := .wait, visit := some 1 }
def urgentDir : Direction := { kind := .text }

/-- The gate with a point's state. -/
def atPoint (p : Point) (q : PointState) (s : State) : State := s.modPoint p (fun _ => q)

/-- An urgent in display with sequence 5. -/
def urgentShown (follow : Option Direction) (queue : List Descriptor) : PointState :=
  { queue := queue, urgent := .inDisplay urgentDir, follow := follow, sequence := 6, displaySequence := some 5
    resendCountdown := some 3 }

/-- Visit 1's direction alone in display with sequence 5. -/
def headShown : PointState :=
  { queue := [⟨waitDir, true⟩], sequence := 6, displaySequence := some 5, resendCountdown := some 3 }

theorem witness_ShownCompletesTheMessage :
    (let s := reported 1 (.shown 5) (atPoint 0 (urgentShown none []) gate)
     s.intake.queue = [⟨1, .shown 5⟩] ∧ s.stationOf 1 = some ⟨1, 0, .display⟩ ∧ (s.point 0).urgent = .inDisplay urgentDir
       ∧ (s.point 0).displaySequence = some 5 ∧ (s.point 0).displaySequence ≠ some 6 ∧ (s.point 0).follow = none
       ∧ (s.point 0).queue = [])
      ∧ ((gate.point 0).displayed? = none)
      ∧ (let s := reported 1 (.shown 5) (atPoint 0 (urgentShown (some urgentDir) []) gate)
         (s.point 0).follow = some urgentDir ∧ s.displayStation 0 = some 1)
      ∧ (let s := reported 1 (.shown 5) (atPoint 0 (urgentShown none [⟨waitDir, false⟩]) gate)
         (s.point 0).queue = ⟨waitDir, false⟩ :: [] ∧ (∀ y ∈ (s.point 0).queue, y.inDisplay = false))
      ∧ (let s := reported 1 (.shown 5) (atPoint 0 headShown (assembling 1))
         (s.point 0).urgent = .empty ∧ (s.point 0).queue = [⟨waitDir, true⟩] ∧ s.engine.pendings = []
           ∧ waitDir.visit = some 1 ∧ s.findVisit 1 = some 0 ∧ pointLane? 0 = some 0)
      ∧ (∀ x ∈ [StagedAt.bay, .row 23],
         let s := reported 4 (.shown 5) (atPoint 12 headShown (withVisit 0 { number := 1, state := .releasing }
           (gate.setStaged ([stagedEntry 2 .bay 0] ++ stagedEntry 1 x 0 :: []))))
         s.stationOf 4 = some ⟨4, 12, .display⟩ ∧ pointLane? 12 = none ∧ (s.visit 0).state = .releasing
           ∧ s.findVisit 1 = some 0 ∧ s.pacer.staged = [stagedEntry 2 .bay 0] ++ stagedEntry 1 x 0 :: []
           ∧ (∀ z ∈ [stagedEntry 2 .bay 0] ++ [], z.visit ≠ 1) ∧ s.pacer.laneWait = [])
      ∧ (∀ y ∈ gate.pacer.staged, y.visit ≠ 1)
      ∧ (∀ q ∈ [urgentShown none [⟨waitDir, false⟩], { headShown with queue := ⟨waitDir, true⟩ :: List.replicate 5 ⟨waitDir, false⟩ },
            { headShown with urgent := .ready urgentDir }],
          ((atPoint 0 q gate).point 0).displayed? ≠ none ∧ ((atPoint 0 q gate).point 0).displaySequence = some 5) := by decide

/-- Visit 1 of lane 1 in record 0 with a state, heading the departure queue with its direction done. -/
def departing (v : Visit) : State := (withVisit 0 { v with number := 1 } gate).modDepartures 0 (fun _ => [⟨0, true⟩])

theorem witness_BarriersRiseAndReportsArePlaced :
    (let s := departing { state := .directing }
     (s.barrier 0).raising = false ∧ s.departures 0 = ⟨0, true⟩ :: [] ∧ (s.visit 0).state = .directing
       ∧ s.barrierStation 0 = some 2 ∧ running.barrierStation 0 = none)
      ∧ (let s := departing { state := .checking }
         ∀ h ∈ (s.departures 0).head?, h.done = false ∨ (s.visit h.visit).state ≠ .directing)
      ∧ (∀ n ∈ [0, 10, 11, 15], let s := withReports (List.replicate n report1) [] false gate
         s.mgmt.reportQueue.length < 16 ∧ s.mgmt.reportWait = [])
      ∧ (16 ≤ (withReports (List.replicate 16 report1) [] false gate).mgmt.reportQueue.length)
      ∧ ((withReports [report1] [5] false gate).mgmt.reportWait ≠ []) := by decide

/-- The same with the barrier RAISING. -/
def raised (v : Visit) : State := (departing v).modBarrier 0 (fun _ => ⟨true, some 90⟩)

theorem witness_PassedTrucksMoveOn :
    (let s := reported 2 .passed (raised { state := .atBarrier, disposition := some .dispatched })
     s.intake.queue = [⟨2, .passed⟩] ∧ s.stationOf 2 = some ⟨2, 0, .barrier⟩ ∧ pointLane? 0 = some 0
       ∧ (s.barrier 0).raising = true ∧ s.departures 0 = ⟨0, true⟩ :: [])
      ∧ ((reported 2 .passed gate).barrier 0).raising = false
      ∧ (asked (.barrierClear 0) gate).takes 7 (.barrierClear 0) [] ∧ (asked (.barrierClear 13) gate).takes 7 (.barrierClear 13) []
      ∧ (asked (.barrierClear 12) gate).takes 7 (.barrierClear 12) [] ∧ 12 = (11 : Lane).val + 1
      ∧ ((asked (.barrierClear 12) gate).barrier 11).raising = false
      ∧ (asked (.barrierClear 1) (raised { })).takes 7 (.barrierClear 1) []
      ∧ ((asked (.barrierClear 1) (raised { })).barrier 0).raising = true
      ∧ (asked (.barrierClear 1) (raised { })).departures 0 = ⟨0, true⟩ :: [] :=
  ⟨by decide, by decide, asked_takes _ (by decide), asked_takes _ (by decide), asked_takes _ (by decide), by decide,
    by decide, asked_takes _ (by decide), by decide, by decide⟩

/-- The rows of TABLE 9-3 that `PassedBy` names. -/
theorem witness_PassedBy_rows :
    (∀ o ∈ [VisitOutcome.trouble, .turnedAway, .inspection],
        let s := raised { outcome := some o }
        (s.visit 0).disposition ≠ some .dispatched ∧ (s.visit 0).disposition ≠ some .staged ∧ (s.visit 0).outcome = some o)
      ∧ (let s := (raised { disposition := some .staged, outcome := some .admitted, row := some 23, dispatch := some 6 }).setRow 23
           (.reserved 1)
         (s.visit 0).disposition = some .staged ∧ (s.visit 0).row = some 23 ∧ s.rowState 23 = .reserved (s.visit 0).number
           ∧ (s.visit 0).dispatch = some 6) := by decide

theorem witness_UrgentsTakeTheSlot :
    ((atPoint 0 { urgent := .ready urgentDir } gate).point 0).urgent = .ready urgentDir
      ∧ ((atPoint 0 (urgentShown none []) gate).point 0).urgent = .inDisplay urgentDir
      ∧ ((atPoint 0 headShown gate).point 0).urgent = .empty
      ∧ ((atPoint 0 headShown gate).point 0).displayed? = some (waitDir, false)
      ∧ (gate.point 0).displayed? = none ∧ gate.displayStation 0 = some 1 ∧ gate.displayStation 13 = none
      ∧ (gate.point 13).follow = none ∧ (gate.point 13).queue = []
      ∧ (∀ n ∈ [0, 15], (asked (.sendUrgent n 1 0 none none none) gate).takes 7 (.sendUrgent n 1 0 none none none) [])
      ∧ (∀ m ∈ [MgmtRequest.sendUrgent 14 0 0 none none none, .sendUrgent 1 10 0 none none none,
            .sendUrgent 1 9 0 none (some 33) none, .sendUrgent 1 9 0 none none (some 25),
            .sendUrgent 14 9 255 (some 65535) (some 32) (some 24), .sendUrgent 1 1 0 (some 1) (some 1) (some 1)],
          (asked m gate).takes 7 m [])
      ∧ (let d : Direction := ⟨.text, some 65535, some 31, some 23, 255⟩
         9 = d.kind.wire ∧ some 32 = d.block.map numberOf ∧ some 24 = d.row.map numberOf ∧ 14 = (13 : Point).val + 1) := by
  refine ⟨by decide, by decide, by decide, by decide, by decide, by decide, by decide, by decide, by decide,
    fun n h => asked_takes _ ?_, fun m h => asked_takes _ ?_, by decide⟩
  · revert n; decide
  · revert m; decide

/-- Descriptors of other visits, and one of visit 1. -/
def queued (n : Nat) : Descriptor := ⟨{ kind := .proceed, visit := some n }, false⟩

/-- A pending direction of a visit for point p. -/
def pendingOf (n : Nat) (p : Point) : PendingDirection := ⟨n, p, { kind := .proceed, visit := some n }⟩

theorem witness_DirectionsTakeTheirPlace :
    ((0 : Point) = lanePoint 0 ∧ pointLane? 12 = none ∧ pointLane? 13 = none ∧ (assembling 1).findVisit 1 = some 0)
      ∧ (∀ p ∈ [(0 : Point), 12], let s := assembling 1
         (s.point p).queue = [] ∧ (s.point p).urgent = .empty ∧ (s.displayStation p).isSome = true)
      ∧ (∀ p ∈ [(1 : Point), 13], let s := assembling 1
         (s.point p).queue = [] ∧ (s.point p).urgent = .empty ∧ s.displayStation p = none
           ∧ ∀ y ∈ pendingsWithout s 1 p, y.point ≠ p)
      ∧ (∀ p ∈ [(0 : Point), 12], ∀ n ∈ [0, 4, 5],
         let s := (atPoint p { headShown with queue := ⟨{ kind := .wait, visit := some 2 }, true⟩ :: List.replicate n (queued 3) }
           (assembling 1)).setPendings [pendingOf 1 p, pendingOf 2 p]
         (s.point p).displayed? ≠ none ∧ (∀ y ∈ (s.point p).queue, y.direction.visit = some 1 → y.inDisplay = true)
           ∧ ((s.point p).queue.length < 6 ∨ 6 ≤ (s.point p).queue.length)
           ∧ pendingsWithout s 1 p = [pendingOf 2 p]) := by decide

/-- The cases of the withdrawal: nothing pending, and the oldest pending direction taking the room at both sizes. -/
theorem witness_DirectionsTakeTheirPlace_withdrawal :
    (let q : List Descriptor := [⟨{ kind := .wait, visit := some 2 }, true⟩]
     let s := atPoint 0 { headShown with queue := q ++ queued 1 :: [queued 3] } (assembling 1)
     (s.point 0).displayed? ≠ none ∧ (s.point 0).queue = q ++ queued 1 :: [queued 3] ∧ (queued 1).inDisplay = false
       ∧ (queued 1).direction.visit = some 1 ∧ (∀ y ∈ q ++ [queued 3], y.direction.visit ≠ some 1)
       ∧ (q ++ [queued 3]).length < 6 ∧ (∀ y ∈ pendingsWithout s 1 0, y.point ≠ 0))
      ∧ (∀ n ∈ [3, 4], let q : List Descriptor := [⟨{ kind := .wait, visit := some 2 }, true⟩]
         let b := List.replicate n (queued 3)
         let s := (atPoint 13 { headShown with queue := q ++ queued 1 :: b } (assembling 1)).setPendings
           [pendingOf 4 12, pendingOf 4 13, pendingOf 5 13]
         (s.point 13).displayed? ≠ none ∧ (s.point 13).queue = q ++ queued 1 :: b
           ∧ (∀ y ∈ q ++ b, y.direction.visit ≠ some 1)
           ∧ pendingsWithout s 1 13 = [pendingOf 4 12] ++ pendingOf 4 13 :: [pendingOf 5 13]
           ∧ (∀ y ∈ [pendingOf 4 12], y.point ≠ 13) ∧ ((q ++ b).length < 5 ∨ (q ++ b).length = 5)) := by decide

/-- R151, R154: a direction for point 14 without a display station is retired at once, and its RELEASING visit finishes. -/
theorem test_board_without_station_retires_at_once :
    let s := withVisit 0 { number := 1, state := .releasing, finalDisposition := some .dispatched } running
    let t := s.issueBoard 1 13 { kind := .proceed, visit := some 1, block := some 0 }
    t.point 13 = s.point 13 ∧ (t.visit 0).state = .free ∧ t.mgmt.flags.displayFault = true
      ∧ t.mgmt.reportQueue.map (fun x => x.visit.marks.unconfirmed) = [true] := by decide +kernel

theorem witness_WatchMatchingEnds :
    let e : WatchEntry := { valid := true, kind := .plate, key := .text kr77 4, action := .stopNow, timing := .onArrival }
    let s := (assembling 1).modWatch 63 (fun _ => e)
    (s.watch[63]).kind = .plate ∧ (s.watch[63]).timing = .onArrival
      ∧ ((s.watchCall 0 .plate (.text kr77)).visit 0).hitSet = [63] := by
  decide +kernel

/-! ### Witnesses: checks -/

/-- The gate with a visit in record 0, and with a check queue and context. -/
def inCheck (v : Visit) (q : List RecNo) (c : Option CheckContext) : State :=
  { withVisit 0 { v with number := 1, state := .checking } gate with check := ⟨q, c⟩ }

theorem witness_ChecksStartAndAccessesAreGranted :
    (∀ v ∈ [({ reference := some 8192 } : Visit), { pos1 := { container := some ⟨gatu180, true, 40, 90⟩ } },
        { pos2 := { container := some ⟨gatu180, true, 40, 90⟩ } }, { }],
        let s := inCheck v [0] none
        s.check.context = none ∧ s.check.queue = [0] ∧ (s.visit 0).reference = v.reference ∧ (s.visit 0).pos1 = v.pos1
          ∧ (s.visit 0).pos2 = v.pos2)
      ∧ State.reset.store.granted ≠ none
      ∧ (let s := (gate.requestCheck (.lookupIndex 0)).requestMgmt .coldSweep
         s.store.granted = none ∧ s.store.checkWaiting = some (.lookupIndex 0))
      ∧ (let s := gate.requestMgmt .coldSweep
         s.store.granted = none ∧ s.store.checkWaiting = none ∧ s.store.mgmtWaiting = some .coldSweep)
      ∧ gate.store.checkWaiting = none ∧ gate.store.mgmtWaiting = none := by decide

/-- An OPEN booking for period 5001 with tag 1. -/
def booking1 (x : BookingState) : Booking :=
  { state := x, tag := 1, period := 5001, plate := none, line1 := lineWith [], line2 := none }

/-- Booking 4095, its index entry, and an access that holds the store for a check of record 0. -/
def accessing (x : CheckAccess) (abandoned : Bool) (b : BookingState) (c : CheckContext) : State :=
  { inCheck { reference := some (8192 + 4095), outcome := some .admitted } [] (some c) with
    ring := ringAt 5001 false
    store := { gate.store with
      bookings := [(4095, booking1 b)], index := [(4 * 3942, ⟨105970204518, 4095⟩)], granted := some (.check x abandoned) } }

theorem witness_LookupsDecideTheBooking :
    (let s := accessing (.lookupReference (8192 + 4095)) false .opened { visit := 0 }
     s.store.granted = some (.check (.lookupReference (8192 + 4095)) false) ∧ 4095 = (8192 + 4095) % 8192
       ∧ 1 = (8192 + 4095) / 8192 ∧ s.check.context = some { visit := 0 } ∧ 4095 < bookingCapacity s.store.partition
       ∧ readCell 4095 s.store.bookings = some (booking1 .opened) ∧ (booking1 .opened).tag = 1)
      ∧ (let s := accessing (.lookupReference (16384 + 4095)) false .opened { visit := 0 }
         s.store.booking? 4095 = some (booking1 .opened) ∧ (booking1 .opened).tag ≠ (16384 + 4095) / 8192
           ∧ (({ visit := 0 } : CheckContext).held = none))
      ∧ (∀ i ∈ [4095, 4094, 4096], (accessing (.lookupIndex i) false .opened { visit := 0, searching := some .one }).store.granted
          = some (.check (.lookupIndex i) false))
      ∧ ((accessing (.lookupIndex 4095) true .opened { visit := 0 }).store.granted = some (.check (.lookupIndex 4095) true))
      ∧ (∀ a ∈ [true, false], (accessing (.lookupContainer gatu180) a .opened { visit := 0, searching := some .one }).store.granted
          = some (.check (.lookupContainer gatu180) a))
      ∧ containerKey gatu180 = some 105970204518 ∧ containerKey (txt [65]) = none
      ∧ (accessing (.lookupIndex 4095) false .opened { visit := 0 }).store.lookupContainer gatu180 = [4095] := by decide +kernel

/-- The cases of `SearchGoesOn`. -/
theorem witness_SearchGoesOn_cases :
    (let c : CheckContext := { visit := 0, searching := some .one, candidates := [4094, 4095] }
     c.candidates = 4094 :: [4095])
      ∧ (let s := inCheck { pos2 := { container := some ⟨gatu180, true, 40, 90⟩ } } [] none
         ((s.visit 0).pos2.container.map Container.number) = some gatu180)
      ∧ (let s := inCheck { } [] none
         (s.visit 0).pos2.container = none) := by decide

theorem witness_ConfirmsCommit :
    (∀ a ∈ [true, false], let s := accessing (.confirm 4095 1) a .opened { visit := 0, stage := .commit }
      s.store.granted = some (.check (.confirm 4095 1) a) ∧ 4095 < bookingCapacity s.store.partition
        ∧ (readCell 4095 s.store.bookings).filter (fun b => b.tag == 1) = some (booking1 .opened)
        ∧ s.check.context = some { visit := 0, stage := .commit })
      ∧ (∀ x ∈ [BookingState.cancelled, .arrived], let s := accessing (.confirm 4095 1) false x { visit := 0, stage := .commit }
          (readCell 4095 s.store.bookings).filter (fun b => b.tag == 1) = some (booking1 x))
      ∧ (let s := accessing (.confirm 4095 2) false .opened { visit := 0, stage := .commit }
         (readCell 4095 s.store.bookings).filter (fun b => b.tag == 2) = none
           ∧ s.store.granted = some (.check (.confirm 4095 2) false) ∧ s.check.context = some { visit := 0, stage := .commit })
      ∧ (∀ n ∈ [1, 2], ∀ x ∈ [BookingState.cancelled, .arrived],
         let s := accessing (.confirm 4095 n) true x { visit := 0, stage := .commit }
         s.store.granted = some (.check (.confirm 4095 n) true)
           ∧ ∀ b ∈ (readCell 4095 s.store.bookings).filter (fun b => b.tag == n), b.state ≠ .opened)
      ∧ (∀ o ∈ [VisitOutcome.admitted, .inspection], ((inCheck { outcome := some o } [] none).visit 0).outcome = some o) := by
  decide +kernel

/-- R86, R105: a booking CANCELLED before the confirm leaves a visit with a HOLD in INSPECTION, and turns an ADMIT one and one
that LINE_HOLD alone held away (log entry 23). -/
theorem test_cancelled_at_confirm :
    let s := accessing (.confirm 4095 1) false .cancelled { visit := 0, stage := .commit, held := some ⟨4095, 1, booking1 .opened⟩ }
    let held := fun a => after .confirm
      (s.modVisit 0 (fun v => { v with verdict := some .lineHold, outcome := some .inspection, strongest := a }))
    ((held (some .hold)).visit 0).verdict = some .cancelled ∧ ((held (some .hold)).visit 0).outcome = some .inspection
      ∧ ((held none).visit 0).outcome = some .turnedAway ∧ ((after .confirm s).visit 0).outcome = some .turnedAway := by
  decide +kernel

/-- R49, R60: a check started after a warm reset waits behind the access that the reset abandoned (log entry 24). -/
theorem test_new_check_waits_behind_an_abandoned_access :
    let s := accessing (.lookupIndex 4095) true .opened { visit := 0 }
    let t := after .checkStart { s with check := ⟨[0], none⟩ }
    t.store.granted = s.store.granted ∧ t.store.checkWaiting = some (.lookupReference (8192 + 4095))
      ∧ (after .bookingLookup t).store.granted = some (.check (.lookupReference (8192 + 4095)) false) := by decide +kernel

theorem witness_HandOffFollowsTheOutcome :
    (∀ o ∈ [VisitOutcome.admitted, .trouble, .turnedAway, .inspection],
        ((inCheck { outcome := some o } [] none).visit 0).outcome = some o)
      ∧ (let c : CheckContext := { visit := 0, held := some ⟨4095, 1, booking1 .opened⟩ }
         c.held = some ⟨4095, 1, booking1 .opened⟩ ∧ (booking1 .opened).line1.direction = .drop)
      ∧ (let b : Booking := { booking1 .opened with line1 := { lineWith [] with direction := .pick }, line2 := some (lineWith []) }
         b.line1.direction ≠ .drop ∧ b.line2 = some (lineWith []) ∧ (lineWith []).direction = .drop)
      ∧ (∀ x ∈ [BookingVerdict.walkIn, .walkInRefused],
          ((inCheck { verdict := some x, outcome := some .turnedAway } [] none).visit 0).verdict = some x) := by decide

theorem witness_VerdictIsTheFirstRowThatHolds :
    (∀ x ∈ [BookingState.cancelled, .arrived, .opened], (booking1 x).state = x)
      ∧ (let w := (ringAt 5001 false).reading (some 5001)
         w.slot = some ⟨2, 1, .current⟩ ∧ w.arrival = 5001 ∧ ¬ 5001 < w.arrival - 1 ∧ ¬ w.arrival + 2 < 5001)
      ∧ ((ringAt 5003 false).reading (some 5001)).arrival - 1 = 5002 ∧ ((ringAt 4998 false).reading (some 5001)).arrival + 2 = 5000
      ∧ ((ringAt 4999 false).reading (some 5001)).arrival + 2 = 5001 ∧ ((ringAt 5002 false).reading (some 5001)).arrival - 1 = 5001
      ∧ (running.ring.reading (some 5001)).slot = none ∧ 32 ≤ 32 := by decide

theorem witness_JudgementsFollowTheirTables :
    (let d : PerPanel (Option Nat) := ⟨some 6, none, none, none, none, none⟩
     d.get .front ≠ none ∧ ({ } : Params).stopSeverity ≤ 6)
      ∧ (∀ k ∈ [Panel.front, .rear, .left, .right, .roof, .doors], (⟨none, none, none, none, none, none⟩ : PerPanel (Option Nat)).get k = none)
      ∧ (∃ l : BookingLine, l.seals = []) :=
  ⟨by decide, by decide, ⟨lineWith [], rfl⟩⟩

/-! ### Witnesses: pacing -/

/-- Block 1 ACTIVE with a credit. -/
def credited (n : Nat) (s : State) : State := s.modBlock 0 (fun _ => { YardBlock.fresh block7 with credit := n })

theorem witness_DispatchRequestsAreDecided :
    (let s := credited 57600 (withVisit 0 { number := 1, dispatch := some 0 } gate)
     (s.visit 0).dispatch = some 0 ∧ (s.block 0).active = true ∧ 57600 ≤ (s.block 0).credit
       ∧ (∀ e ∈ s.pacer.staged, e.block ≠ 0) ∧ ∀ e ∈ s.pacer.laneWait, e.block ≠ 0)
      ∧ (let s := credited 57600 (withVisit 0 { number := 1, dispatch := some 31, alternate := some 0 } gate)
         (s.block 31).active = false ∧ (s.visit 0).alternate = some 0)
      ∧ (let s := credited 57599 (withVisit 0 { number := 1, dispatch := some 0 } gate)
         ¬ 57600 ≤ (s.block 0).credit ∧ (s.visit 0).alternate = none ∧ s.rowState 0 = .free
           ∧ (0 : RowNo).val < s.mgmt.params.stagingRows)
      ∧ (let s := { credited 57599 (withVisit 0 { number := 1, dispatch := some 0 } gate) with
           pacer := { (credited 57599 gate).pacer with rows := gate.pacer.rows.set 0 (.occupied 5) }
           mgmt := { gate.mgmt with params := { stagingRows := 1 } } }
         ∀ i : RowNo, i.val < s.mgmt.params.stagingRows → s.rowState i ≠ .free) := by decide

theorem witness_CreditGoesToTheWaiters :
    (∀ n ∈ [6, 7], let s := gate.modBlock 0 (fun _ => { YardBlock.fresh block7 with credit := 57600, dsf := n })
      (s.block 0).params.mrl = 8 ∧ min ((s.block 0).dsf + 1) 65535 = n + 1)
      ∧ (let s := credited 57600 (gate.setStaged [{ stagedEntry 1 .bay 0 with block := 0 }])
         s.canDebit 0 = true
           ∧ s.pacer.staged.find? (fun x => x.block == 0 && !x.released) = some { stagedEntry 1 .bay 0 with block := 0 })
      ∧ ((running.block 0).active = false ∧ (∀ e ∈ running.pacer.staged, e.block = 0 → e.released = true)
          ∧ ∀ e ∈ running.pacer.laneWait, e.block ≠ 0)
      ∧ (∀ x ∈ [StagedAt.bay, .row 0],
         let a := [{ stagedEntry 2 .bay 0 with block := 0, released := true }]
         let e := { stagedEntry 1 x 0 with block := 0 }
         let s := credited 57600 (withVisit 0 { number := 1, state := .staged } (gate.setStaged (a ++ e :: [])))
         (s.block 0).active = true ∧ 57600 ≤ (s.block 0).credit ∧ s.pacer.staged = a ++ e :: []
           ∧ (∀ y ∈ a, y.block = 0 → y.released = true) ∧ e.block = 0 ∧ e.released = false ∧ s.findVisit e.visit = some 0)
      ∧ (let a : List LaneWaitEntry := [⟨2, 1⟩]
         let e : LaneWaitEntry := ⟨1, 0⟩
         let s := credited 57600 (withVisit 0 { number := 1, state := .waitingInLane } (gate.setLaneWait (a ++ e :: [])))
         (s.block 0).active = true ∧ 57600 ≤ (s.block 0).credit ∧ s.pacer.laneWait = a ++ e :: []
           ∧ (∀ y ∈ a, y.block ≠ 0) ∧ e.block = 0 ∧ s.findVisit e.visit = some 0) := by
  decide +kernel

theorem witness_CreditGoesToTheWaiters_alternate_and_promotion :
    (∀ n ∈ [57599, 57600],
      let e := { stagedEntry 1 (.row 23) 1800 with alternate := some 0, timedOut := true }
      let s := credited n (withVisit 0 { number := 1, state := .staged } (gate.setStaged ([stagedEntry 2 .bay 0] ++ e :: [])))
      s.pacer.staged = [stagedEntry 2 .bay 0] ++ e :: [] ∧ e.visit = 1 ∧ (∀ x ∈ [stagedEntry 2 .bay 0] ++ [], x.visit ≠ 1)
        ∧ e.timedOut = true ∧ e.released = false ∧ e.alternate = some 0 ∧ (s.block 0).active = true
        ∧ (57600 ≤ (s.block 0).credit ↔ n = 57600) ∧ s.findVisit 1 = some 0 ∧ (∀ x ∈ s.pacer.staged, x.visit ≠ 3))
      ∧ (let s := (withVisit 0 { number := 1, state := .waitingInLane } (gate.setLaneWait [⟨1, 0⟩])).setRow 0 (.occupied 5)
         s.pacer.laneWait = (⟨1, 0⟩ : LaneWaitEntry) :: [] ∧ (1 : RowNo).val < s.mgmt.params.stagingRows ∧ s.rowState 1 = .free
           ∧ (∀ i : RowNo, i < 1 → s.rowState i ≠ .free) ∧ s.findVisit 1 = some 0)
      ∧ running.pacer.laneWait = []
      ∧ (let s : State := { running with pacer := { running.pacer with rows := Vector.replicate 24 (.occupied 5) } }
         ∀ w : RowNo, w.val < s.mgmt.params.stagingRows → s.rowState w ≠ .free) := by decide +kernel

/-! ### Witnesses: management requests -/

/-- Every request of a list can be asked of a state. -/
theorem asked_all (q : List MgmtRequest) (s : State) (h : ∀ m ∈ q, request? (encRequest m) = some m) :
    ∀ m ∈ q, (asked m s).takes 7 m [] :=
  fun m hm => asked_takes s (h m hm)

theorem witness_StationCodeAlertAndWatchRequests :
    (∀ m ∈ [MgmtRequest.stationWrite 64 true 1 1 1, .stationWrite 63 false 0 0 0, .stationWrite 63 true 0 1 1,
        .stationWrite 63 true 255 1 1, .stationWrite 63 true 1 15 1, .stationWrite 63 true 1 1 4, .stationWrite 63 true 254 14 3,
        .stationWrite 0 true 2 1 1, .stationRead 63, .stationRead 64, .codeWrite 8 1 1 false, .codeWrite 7 0 1 false,
        .codeWrite 7 1 3 true, .codeWrite 7 0 1 true, .codeWrite 0 255 2 false, .codeRead 7, .codeRead 8, .alertRead 0,
        .alertRead 13, .alertRead 12], (asked m gate).takes 7 m [])
      ∧ (gate.intake.stations[(1 : Fin 64)] = some ⟨2, 0, .barrier⟩ ∧ (1 : Fin 64) ≠ 0)
      ∧ (∀ k : Fin 64, ∀ e ∈ gate.intake.stations[k], e.number ≠ 254)
      ∧ 64 ≤ 64 ∧ 63 = (63 : Fin 64).val ∧ 14 = (13 : Point).val + 1 ∧ 3 = Role.barrier.wire ∧ 2 = CodeMode.alert.wire
      ∧ 12 = (11 : Lane).val + 1 :=
  ⟨asked_all _ _ (by decide), by decide, by decide +kernel, by decide⟩

theorem witness_StationCodeAlertAndWatchRequests_watch :
    (∀ m ∈ [MgmtRequest.watchWrite 64 true (rawWatch 1 11 0 1 1 255 kr7), .watchWrite 63 false (rawWatch 0 0 0 0 0 0 []),
        .watchWrite 63 true (rawWatch 6 1 0 1 1 255 kr7), .watchWrite 63 true (rawWatch 1 1 0 4 1 255 kr7),
        .watchWrite 63 true (rawWatch 1 1 0 1 3 255 kr7), .watchWrite 63 true (rawWatch 1 1 0 1 1 64 kr7),
        .watchWrite 63 true (rawWatch 5 0 32 1 1 255 []), .watchWrite 63 true (rawWatch 1 1 0 1 1 255 []),
        .watchWrite 63 true (rawWatch 4 12 0 1 1 255 kr7), .watchWrite 0 true (rawWatch 4 11 0 3 2 63 kr7),
        .watchWrite 0 true (rawWatch 5 0 31 3 2 63 []), .watchRead 63, .watchRead 64], (asked m gate).takes 7 m [])
      ∧ (∀ w ∈ [rawWatch 4 11 0 3 2 63 kr7, rawWatch 5 0 31 3 2 63 []], w.text.places.length = 11)
      ∧ (let e : WatchEntry := ⟨true, .driver, .text kr7 11, .stopNow, .atClose, some 63⟩
         let w := rawWatch 4 11 0 3 2 63 kr7
         w.kind = e.kind.wire ∧ w.action = e.action.wire ∧ w.timing = e.timing.wire ∧ w.predecessor = e.predecessor.getD 255
           ∧ e.key = .text (w.text.places.take w.text.length) w.compareLength ∧ w.text.length ≠ 0 ∧ w.text.length ≤ 11
           ∧ (∀ x ∈ w.text.places.take w.text.length, ¬ (isLetter x = false ∧ isDigit x = false)))
      ∧ (let e : WatchEntry := ⟨true, .booking, .reference 8193 31, .stopNow, .atClose, some 63⟩
         let w := rawWatch 5 0 31 3 2 63 []
         w.kind = e.kind.wire ∧ w.maskWidth ≤ 31 ∧ e.key = .reference w.reference w.maskWidth) :=
  ⟨asked_all _ _ (by decide), by decide⟩

/-- The running part with the ring of period 5001. -/
def ringed (g : Ring) : State := { running with ring := g }

theorem witness_WindowWritesAndDeletes :
    (∀ m ∈ [MgmtRequest.windowWrite 5001 0 299 0 0 0 0, .windowWrite 5001 0 300 4095 4095 7 7, .windowWrite 5002 3600 7200 1 1 2 1,
        .windowWrite 5002 3600 3600 2 0 2 1, .windowWrite 5097 0 300 1 1 0 0, .windowWrite 5098 0 300 1 1 0 0,
        .windowWrite 5000 0 300 1 1 0 0, .windowDelete 5000, .windowDelete 5001, .windowDelete 5002, .windowDelete 5097],
        (asked m (ringed (ringAt 5001 false))).takes 7 m [])
      ∧ (let r := (asked (.windowDelete 5001) (ringed (ringAt 5001 false))).ring
         r.slots[(9 : Fin 96)] = some (win 5001 0 0) ∧ r.slots[(10 : Fin 96)] = some (win 5002 3600 2) ∧ r.slots[(8 : Fin 96)] = none
           ∧ (win 5002 3600 2).booked = 2 ∧ (win 5001 0 0).booked = 0 ∧ r.gap = false ∧ (r.window? r.arrival).isSome = true)
      ∧ 5001 % 96 = 9 ∧ 5097 % 96 = 9 ∧ 5002 % 96 = 10 ∧ 5098 % 96 = 10 ∧ 5000 % 96 = 8 := by
  refine ⟨asked_all _ _ (by decide), ?_⟩
  decide

theorem witness_BlockWritesTunesDisables :
    (∀ m ∈ [MgmtRequest.blockWrite 0 block7, .blockWrite 33 block7, .blockWrite 32 block7,
        .blockWrite 1 { block7 with pdr := 16384 }, .blockWrite 1 { block7 with burst := 0 }, .blockWrite 1 { block7 with burst := 16 },
        .blockTune 33 block7, .blockTune 32 block7, .blockTune 1 { block7 with mdr := 481 }, .blockDisable 0, .blockDisable 33,
        .blockDisable 32], (asked m running).takes 7 m [] ∧ (asked m (running.modBlock 31 (fun _ => YardBlock.fresh block7))).takes 7 m [])
      ∧ (running.block 31).written = false ∧ (running.block 31).active = false
      ∧ (let s := running.modBlock 31 (fun _ => YardBlock.fresh block7)
         (s.block 31).written = true ∧ (s.block 31).active = true ∧ 32 = (31 : BlockNo).val + 1)
      ∧ block7.legal = true ∧ { block7 with pdr := 16384 }.legal = false ∧ { block7 with burst := 0 }.legal = false := by
  refine ⟨fun m hm => ⟨asked_takes _ ?_, asked_takes _ ?_⟩, by decide⟩ <;> revert m <;> decide

theorem witness_ReadsAnswerWithWhatStands :
    (∀ m ∈ [MgmtRequest.windowRead 96, .windowRead 95, .windowRead 9, .windowRead 10, .blockRead 0, .blockRead 33, .blockRead 32,
        .visitRead 0, .visitRead 1, .visitRead 65535, .identify], ∀ s ∈ [ringed (ringAt 5001 false), assembling 1],
        (asked m s).takes 7 m [])
      ∧ (let r := ringAt 5001 false
         r.slots[(95 : Fin 96)] = none ∧ (win 5002 0 0).period > r.arrival ∧ (win 5001 0 0).period = r.arrival)
      ∧ (ringAt 5002 false).arrival - (win 5001 0 0).late = 5001 ∧ (win 5001 0 0).period < (ringAt 5003 false).arrival - 1
      ∧ ((assembling 1).visit 0).number = 1 ∧ ((assembling 1).visit 0).state ≠ .free
      ∧ (∀ i : RecNo, ((assembling 1).visit i).number = 1 → ((assembling 1).visit i).state ≠ .free → i = 0)
      ∧ (∀ i : RecNo, ((assembling 1).visit i).number = 65535 → ((assembling 1).visit i).state = .free) := by
  refine ⟨fun m hm s _ => asked_takes s ?_, by decide, by decide, by decide, by decide, by decide, by decide +kernel, by decide +kernel⟩
  revert m; decide

theorem witness_ParametersAreWrittenAndRead :
    (∀ m ∈ [MgmtRequest.paramWrite 19 0, .paramWrite 0 4, .paramWrite 0 5, .paramWrite 18 2, .paramWrite 6 1, .paramWrite 6 24,
        .paramWrite 17 511, .paramWrite 17 512, .paramRead 18 0, .paramRead 19 65535], ∀ s ∈ [running, running.setRow 23 (.occupied 1)],
        (asked m s).takes 7 m [])
      ∧ (let s : State := { running with pacer := { running.pacer with
           rows := (running.pacer.rows.set 0 (.occupied 1)).set 1 (.reserved 2) } }
         1 < s.rowsHeld ∧ s.rowsHeld ≤ 24 ∧ s.rowsHeld ≤ 2)
      ∧ paramRange 0 4 = false ∧ paramRange 0 5 = true ∧ paramRange 6 24 = true ∧ paramRange 18 2 = true ∧ 511 < 512 := by
  refine ⟨fun m hm s _ => asked_takes s ?_, by decide⟩
  revert m; decide

theorem witness_TimeCountersAndReportHold :
    (∀ m ∈ [MgmtRequest.timeSet 0, .timeSet 3599, .timeSet 3600, .timeSet 7199, .timeSet 7200, .timeSet max32,
        .countersRead true, .countersRead false, .reportHold, .reportResume],
        ∀ s ∈ [ringed (ringAt 5001 false), running.setHold true, running.setHold false], (asked m s).takes 7 m [])
      ∧ (ringAt 5001 false).slots[(9 : Fin 96)] = some (win 5001 0 0) ∧ (win 5001 0 0).start ≤ 3599
      ∧ 3599 < (win 5001 0 0).start + (win 5001 0 0).length
      ∧ (ringAt 5001 false).slots[(10 : Fin 96)] = some (win 5002 3600 2) ∧ ¬ 7200 < (win 5002 3600 2).start + (win 5002 3600 2).length
      ∧ (running.setHold true).mgmt.hold = true ∧ (running.setHold false).mgmt.hold = false := by
  refine ⟨fun m hm s _ => asked_takes s ?_, by decide⟩
  revert m; decide

theorem witness_LanesOpenStopAndFlush :
    (∀ k ∈ [0, 1, 12, 13], ∀ m ∈ [MgmtRequest.laneOpen k, .laneStop k, .laneFlush k], ∀ s ∈ [gate, assembling 1],
        (asked m s).takes 7 m [])
      ∧ (gate.lane 0).state = .opened ∧ (gate.lane 0).openVisit = none ∧ (gate.lane 11).state = .closed
      ∧ ((assembling 1).lane 0).state = .opened ∧ ((assembling 1).lane 0).openVisit = some 0 ∧ 12 = (11 : Lane).val + 1 := by
  refine ⟨fun k hk m hm s _ => asked_takes s ?_, by decide⟩
  revert m; revert k; decide

theorem witness_HeldVisitsAreReleasedOrRejected :
    (∀ m ∈ [MgmtRequest.visitRelease 0 none, .visitRelease 1 (some 33), .visitRelease 1 none, .visitRelease 1 (some 32),
        .visitRelease 1 (some 1), .visitRelease 65535 none, .visitReject 0, .visitReject 1, .visitReject 65535],
        ∀ s ∈ [assembling 1, withVisit 0 { number := 1, state := .held } gate,
          withVisit 0 { number := 1, state := .held, dispatch := some 6 } gate], (asked m s).takes 7 m [])
      ∧ (assembling 1).findVisit 65535 = none ∧ (assembling 1).findVisit 1 = some 0 ∧ ((assembling 1).visit 0).state ≠ .held
      ∧ (let s := withVisit 0 { number := 1, state := .held } gate
         s.findVisit 1 = some 0 ∧ (s.visit 0).state = .held ∧ (s.visit 0).dispatch = none)
      ∧ (let s := withVisit 0 { number := 1, state := .held, dispatch := some 6 } gate
         (s.visit 0).dispatch ≠ none) := by
  refine ⟨fun m hm s _ => asked_takes s ?_, by decide +kernel⟩
  revert m; decide

theorem witness_RequestsAskForAccessOrAreBad :
    (∀ m ∈ [MgmtRequest.bookingWrite (rawTwo 65535), .bookingCancel 65535 none, .bookingDelete 0 (some max32), .bookingRead 4095 (some 1),
        .setPartition 2, .setPartition 3], ∀ s ∈ [running, gate, assembling 1], (asked m s).takes 7 m [])
      ∧ (gate.lane 0).state = .opened ∧ (∀ l : Lane, (running.lane l).state = .closed) ∧ (∀ r : RecNo, (running.visit r).state = .free)
      ∧ (∀ b ∈ [([] : List Byte), [0], [37], [36, 0], [255]],
          byteAt b 0 = 0 ∨ 36 < byteAt b 0 ∨ b.length ≠ requestLength (byteAt b 0))
      ∧ ({ running with mgmt := { running.mgmt with queue := [⟨7, []⟩] } } : State).mgmt.queue = ⟨7, []⟩ :: [] := by
  refine ⟨fun m hm s _ => asked_takes s ?_, by decide, by decide, by decide, by decide, by decide⟩
  revert m; decide +kernel

/-- A request of the management unit that holds the store, with a record and full or free ways. -/
def completing (kind : Nat) (a : MgmtAccess) (booked : Nat) (q : List (Nat × Booking)) (ix : List (Nat × IndexEntry)) : State :=
  { running with
    mgmt := { running.mgmt with unit := .accessing 7 kind }
    ring := { ringAt 5001 false with slots := (Vector.replicate 96 none).set 9 (some (win 5001 0 booked)) }
    store := { running.store with bookings := q, index := ix, granted := some (.mgmt a) } }

/-- The four ways of GATU2045180's bucket, all valid. -/
def fullBucket : List (Nat × IndexEntry) :=
  [(15768, ⟨1, 2⟩), (15769, ⟨1, 2⟩), (15770, ⟨1, 2⟩), (15771, ⟨1, 2⟩)]

theorem witness_BookingWritesComplete :
    (∀ i ∈ [4095, 4096], let s := completing 14 (.bookingWrite (rawTwo i)) 1 [] []
      s.store.granted = some (.mgmt (.bookingWrite (rawTwo i))) ∧ s.mgmt.unit = .accessing 7 14 ∧ bookingCapacity s.store.partition = 4096)
      ∧ ({ rawOne 4095 with tag := 0 }).booking? = none ∧ ({ rawOne 4095 with tag := 524288 }).booking? = none
      ∧ ((rawOne 4095).booking?).isSome = true ∧ ((rawTwo 4095).booking?).isSome = true
      ∧ (let s := completing 14 (.bookingWrite (rawOne 4095)) 1 [(4095, booking1 .cancelled)] []
         (readCell 4095 s.store.bookings).isSome = true)
      ∧ (let s := completing 14 (.bookingWrite (rawOne 4095)) 1 [] []
         readCell 4095 s.store.bookings = none ∧ s.ring.window? 5001 = some (win 5001 0 1) ∧ (win 5001 0 1).booked < (win 5001 0 1).capacity
           ∧ s.ring.window? 5000 = none)
      ∧ (win 5001 0 2).capacity ≤ (win 5001 0 2).booked
      ∧ (let l := lineWith []
         l.direction = .drop ∧ l.container = some gatu180 ∧ containerKey gatu180 = some 105970204518)
      ∧ (let s := completing 14 (.bookingWrite (rawOne 4095)) 1 [] fullBucket
         ∀ w, w < 4 → readCell (4 * (105970204518 % bucketCount s.store.partition) + w) s.store.index ≠ none)
      ∧ (let s := completing 14 (.bookingWrite (rawOne 4095)) 1 [] (fullBucket.take 3)
         readCell (4 * (105970204518 % bucketCount s.store.partition) + 3) s.store.index = none) := by
  decide +kernel

/-- The field tests of R52, one wrong field each, and two writes that pass them. -/
theorem witness_BookingWrites_fields :
    let l := rawDrop gatu180
    let p := rawPick
    (∀ x ∈ [{ l with direction := 0 }, { l with direction := 3 }, { l with sizeClass := 30 }, { l with load := 0 }, { l with load := 3 },
        { l with container := raw [] }, { l with container := raw (gatu180.take 10) }, { p with container := raw kr7 },
        { l with container := raw (txt [65, 71, 84, 55, 50, 48, 52, 53, 49, 56, 48]) }, { l with sealCount := 3 },
        { l with seals := [⟨12, kr7 ++ List.replicate 8 0⟩, raw []] }, { l with seals := [raw (txt [97]), raw []] },
        { l with sealCount := 2, seals := [raw kr7, raw kr7] }, { l with load := 2 }, { l with primary := 0 }, { l with primary := 33 },
        { l with alternate := 33 }],
        (MgmtRequest.bookingWrite { rawOne 0 with line1 := x }).fits = true ∧ ({ rawOne 0 with line1 := x }).booking? = none)
      ∧ (∀ b ∈ [{ rawOne 0 with tag := 0 }, { rawOne 0 with tag := 524288 }, { rawOne 0 with lineCount := 0 },
          { rawOne 0 with lineCount := 3 }, { rawOne 0 with plate := ⟨12, kr7 ++ List.replicate 8 0⟩ },
          { rawOne 0 with plate := raw (txt [32]) }, { rawTwo 0 with line2 := l }, { rawOne 0 with lineCount := 2 }],
          (MgmtRequest.bookingWrite b).fits = true ∧ b.booking? = none)
      ∧ (∀ b ∈ [rawOne 0, rawTwo 65535, { rawOne 0 with line1 := p }, { rawTwo 0 with line2 := p }],
          (MgmtRequest.bookingWrite b).fits = true ∧ b.booking?.isSome = true) := by decide +kernel

theorem witness_OtherStoreAccessesComplete :
    (∀ x ∈ [BookingState.opened, .arrived, .cancelled], ∀ g ∈ [none, some 1],
        let s := completing 15 (.bookingCancel 4095 g) 1 [(4095, booking1 x)] [(15768, ⟨105970204518, 4095⟩)]
        s.store.granted = some (.mgmt (.bookingCancel 4095 g)) ∧ s.mgmt.unit = .accessing 7 15
          ∧ readCell 4095 s.store.bookings = some (booking1 x) ∧ (booking1 x).tag = 1 ∧ 4095 < bookingCapacity s.store.partition)
      ∧ (let s := completing 16 (.bookingDelete 4095 (some 2)) 1 [(4095, booking1 .opened)] [(15768, ⟨105970204518, 4095⟩)]
         s.store.granted = some (.mgmt (.bookingDelete 4095 (some 2))) ∧ s.mgmt.unit = .accessing 7 16 ∧ (booking1 .opened).tag ≠ 2
           ∧ cellsWf s.store.index = true ∧ (booking1 .opened).line1.dropKey = some 105970204518
           ∧ 15768 / 4 = 105970204518 % bucketCount s.store.partition)
      ∧ (let s := completing 17 (.bookingRead 4096 none) 1 [] []
         s.store.granted = some (.mgmt (.bookingRead 4096 none)) ∧ s.mgmt.unit = .accessing 7 17
           ∧ bookingCapacity s.store.partition ≤ 4096 ∧ readCell 4095 s.store.bookings = none)
      ∧ (let s := completing 20 (.clear 2) 1 [] []
         s.store.granted = some (.mgmt (.clear 2)) ∧ s.mgmt.unit = .accessing 7 20)
      ∧ State.reset.store.granted = some (.mgmt .coldSweep) := by
  decide +kernel

/-! ### Witnesses: the invariants and the rules of the whole machine -/

/-- A step from a sound state: the running part with a second event in front. -/
theorem witness_invariants :
    running.ring.Sound ∧ running.pacer.Sound ∧ running.WithinBounds ∧ (∀ p : Point, (running.point p).Sound) ∧ running.LanesSound
      ∧ running.store.Sound ∧ running.VisitsSound ∧ running.StoredFits
      ∧ (∃ t, step { running with pending := [.secondEvent] } = .next t) := by
  refine ⟨⟨by decide, ?_, by decide⟩, ?_, ?_, ?_, ?_, ?_, ⟨⟨?_, ?_, by decide, by decide, ?_, ?_, ?_⟩, ?_, ?_, ?_, ?_⟩, ?_, ⟨_, rfl⟩⟩
  · intro i w h
    simp [running, State.reset, State.cold] at h
  · intro b
    simp [running, State.reset, State.cold, YardBlock.Sound]
  · refine ⟨by decide, by decide, by decide, by decide, by decide, by decide, ?_, by decide⟩
    intro r
    simp [State.visit, running, State.reset, State.cold, Assembler.cleared]
  · intro p
    simp [State.point, running, State.reset, State.cold, PointState.Sound, PointState.displayed?]
  · intro l
    simp [State.lane, State.barrier, running, State.reset, State.cold, Assembler.cleared]
  · simp [TableStore.Sound, running, State.reset, State.cold, cellsWf]
  · exact List.nodup_finRange 48
  · intro r
    simp [running, State.reset, State.cold, Assembler.cleared]
  · intro r h
    simp [running, State.reset, State.cold, Assembler.cleared] at h
  · intro r i h
    simp [running, State.reset, State.cold, Assembler.cleared] at h
  · intro l r
    simp [running, State.reset, State.cold, Assembler.cleared]
  · simp [State.ChecksSound, State.visit, running, State.reset, State.cold, Assembler.cleared]
  · intro l
    simp [State.departures, State.barrier, State.visit, VisitState.inDeparture, running, State.reset, State.cold, Assembler.cleared]
  · simp [State.PacingSound, Visit.DecisionSound, State.rowState, State.visit, running, State.reset, State.cold, Assembler.cleared]
  · simp [State.ReportsSound, State.visit, running, State.reset, State.cold, Assembler.cleared]
  · simp [State.StoredFits, Visit.Fits, PosData.Fits, WatchEntry.Fits, State.hasResponse, State.visit, running, State.reset, State.cold, Assembler.cleared]

theorem witness_BookedCountsStayRight : running.BookedCountsRight := by
  refine ⟨by decide, ?_, ?_⟩
  · intro i w h
    simp [running, State.reset, State.cold] at h
  · intro p
    simp [running, State.reset, State.cold, Ring.window?]

theorem witness_SettingsChangeOnlyByTheirCommands : ∃ t, exec .secondEvent running = .next t ∧ Instr.secondEvent ≠ .coldReset 0 false :=
  ⟨_, rfl, by decide⟩

theorem witness_RefusedRequestsChangeNothing :
    let s := asked (.laneOpen 13) gate
    let r : Response := ⟨7, 22, .badIndex, .none⟩
    s.mgmt.unit = .idle ∧ s.ports.responsePlace = none ∧ s.ports.uplinkSending = none
      ∧ (after .laneOpen s).ports.uplinkSending = some (.response r) ∧ r.status.refuses = true := by decide

end Sys2Proof.Tests
end

section
/-! Proofs: the cold reset, the arrival of lane reports, and the requests that open, stop and flush a lane. -/

namespace Sys2Proof.Machine

open Sys2Proof

/-! ### COLD_RESET (R26, R179) -/

section Cold

variable (u : Byte) (h : Bool)

/-- After a cold reset nothing waits for a port, so that settling grants nothing. -/
theorem State.settle_cold (q : List Instr) :
    State.settle { State.cold u h with pending := q } = { State.cold u h with pending := q } := rfl

@[simp] theorem State.cold_visit (r : RecNo) : (State.cold u h).visit r = { } := Vector.getElem_replicate r.isLt

@[simp] theorem State.cold_lane (l : Lane) : (State.cold u h).lane l = { } := Vector.getElem_replicate l.isLt

@[simp] theorem State.cold_point (p : Point) : (State.cold u h).point p = { } := Vector.getElem_replicate p.isLt

@[simp] theorem State.cold_barrier (l : Lane) : (State.cold u h).barrier l = { } := Vector.getElem_replicate l.isLt

@[simp] theorem State.cold_departures (l : Lane) : (State.cold u h).departures l = [] :=
  Vector.getElem_replicate l.isLt

@[simp] theorem State.cold_block (b : BlockNo) : (State.cold u h).block b = { } := Vector.getElem_replicate b.isLt

@[simp] theorem State.cold_rowState (r : RowNo) : (State.cold u h).rowState r = .free :=
  Vector.getElem_replicate r.isLt

@[simp] theorem State.cold_laneCounters (l : Lane) : (State.cold u h).mgmt.laneCounters[l] = { } :=
  Vector.getElem_replicate l.isLt

@[simp] theorem State.cold_watch (i : Fin 64) : (State.cold u h).watch[i] = { } := Vector.getElem_replicate i.isLt

end Cold

theorem PartCounters.get_cleared (k : PartCounter) : PartCounters.get { } k = 0 := by cases k <;> rfl

theorem LaneCounters.get_cleared (k : LaneCounter) : LaneCounters.get { } k = 0 := by cases k <;> rfl

theorem NoticeSet.has_empty (c : NoticeClass) : NoticeSet.has { } c = false := by cases c <;> rfl

theorem NoticeSet.has_all (c : NoticeClass) : NoticeSet.all.has c = true := by cases c <;> rfl

/-- The cold column of the visit assembler and the lane intake, with the check queue and the counters (TABLE 1-4). -/
theorem State.cold_assembler_and_intake (u : Byte) (h : Bool) :
    (∀ r : RecNo, ((State.cold u h).visit r).state = .free ∧ ((State.cold u h).visit r).number = 0)
      ∧ (∀ l : Lane, (State.cold u h).intake.latches[l] = none)
      ∧ (∀ i : Fin 8, (State.cold u h).intake.codes[i] = ⟨0, .close, true⟩)
      ∧ (∀ i : Fin 64, (State.cold u h).intake.stations[i] = none)
      ∧ (∀ k, (State.cold u h).mgmt.partCounters.get k = 0)
      ∧ ∀ (l : Lane) k, ((State.cold u h).mgmt.laneCounters[l]).get k = 0 := by
  refine ⟨fun r => ?_, fun l => Vector.getElem_replicate l.isLt, fun i => Vector.getElem_replicate i.isLt,
    fun i => Vector.getElem_replicate i.isLt, PartCounters.get_cleared, fun l k => ?_⟩
  · rw [State.cold_visit]
    exact ⟨rfl, rfl⟩
  · rw [State.cold_laneCounters]
    exact LaneCounters.get_cleared k

/-- Settles O7: a cold reset ends in `State.cold`, which settling leaves as it is. -/
theorem coldResetSetsEveryBlock : Obligations.ColdResetSetsEveryBlock := by
  unfold Obligations.ColdResetSetsEveryBlock
  intro u h s
  obtain ⟨visits, latches, codes, stations, part, lanes⟩ := State.cold_assembler_and_intake u h
  refine ⟨{ State.cold u h with pending := s.pending }, congrArg Host.Outcome.next (State.settle_cold u h s.pending),
    ?_, ?_, ?_⟩
  · exact ⟨visits, rfl, rfl, State.cold_lane u h, rfl, rfl, latches, codes, rfl, part, lanes⟩
  · refine ⟨stations, fun i => ?_, rfl, rfl, rfl, rfl, rfl, fun i => Vector.getElem_replicate i.isLt, rfl, rfl,
      State.cold_block u h, rfl, rfl, State.cold_rowState u h⟩
    rw [State.cold_watch]
    exact ⟨rfl, rfl⟩
  · exact ⟨State.cold_point u h, fun l => ⟨State.cold_barrier u h l, State.cold_departures u h l⟩, rfl, rfl, rfl,
      NoticeSet.has_empty, NoticeSet.has_all, rfl, rfl, rfl, rfl, rfl, rfl, rfl, rfl, rfl, rfl⟩

/-! ### A lane report arrives (R8, R10, R181) -/

/-- A frame that carries a well-formed message comes to the LANE port's own handling (R180, R181). -/
theorem State.receive_lane_of_accepts {s : State} {f : Frame} {m : Message} (h : s.accepts f m) :
    s.receive .lane f = s.laneMessage f m := by
  obtain ⟨fcs, short, long, type, body⟩ := h
  have kept : frameAccepted f = true := by simp [frameAccepted, fcs, short, long]
  have selected : f.etherType = s.selectedType := type
  simp [State.receive, kept, selected, body]

/-- What a LANE_REPORT does before its delivery: with the mirror ON its copy is bridged (R181). -/
def State.mirrored (f : Frame) (s : State) : State := if s.mgmt.params.mirror then s.bridge .lane f else s

theorem exec_laneReport_of_accepts {s : State} {f : Frame} {x : LaneReport} (h : s.accepts f (.laneReport x)) :
    exec (.laneReport f) s = .next (State.settle ((s.mirrored f).deliverReport x)) :=
  congrArg (fun t => Host.Outcome.next (State.settle t)) (State.receive_lane_of_accepts h)

/-- Bridging a frame touches a pass-through queue or a counter, not the intake and not the visits (R183). -/
theorem State.mirrored_frame (f : Frame) (s : State) :
    (s.mirrored f).intake = s.intake ∧ (s.mirrored f).asm = s.asm := by
  unfold State.mirrored State.bridge
  split
  · dsimp only
    split <;> exact ⟨rfl, rfl⟩
  · exact ⟨rfl, rfl⟩

/-- The visit records with GAP set on every ASSEMBLING visit (R10). -/
def State.gapMarked (s : State) : Vector Visit 48 :=
  Vector.ofFn (fun i =>
    if s.asm.visits[i].state = .assembling then
      { s.asm.visits[i] with marks := s.asm.visits[i].marks.add .gap }
    else s.asm.visits[i])

theorem State.gapMarked_get (s : State) (i : RecNo) :
    s.gapMarked[i] = if (s.visit i).state = .assembling then
      { s.visit i with marks := { (s.visit i).marks with gap := true } } else s.visit i :=
  Vector.getElem_ofFn i.isLt

theorem State.deliverReport_room {s : State} (x : LaneReport) (h : s.intake.queue.length < 64) :
    s.deliverReport x = { s with intake := { s.intake with queue := s.intake.queue ++ [x] } } :=
  if_pos h

/-- At a full intake queue a report is dropped and counted and every ASSEMBLING visit is marked GAP; the overrun flag,
when it was clear, becomes set and OVERRUN is raised (R10). -/
theorem State.deliverReport_full {s : State} (x : LaneReport) (h : 64 ≤ s.intake.queue.length) :
    s.deliverReport x =
      if s.intake.overrun then State.count .overrunDrops { s with asm := { s.asm with visits := s.gapMarked } }
      else State.raise .overrun (State.count .overrunDrops
        { s with asm := { s.asm with visits := s.gapMarked }, intake := { s.intake with overrun := true } }) :=
  if_neg (Nat.not_lt.mpr h)

/-- Settles O12: the mirror leaves the intake and the visits, so that the delivery is decided on the state before it. -/
theorem laneReportsArrive : Obligations.LaneReportsArrive := by
  unfold Obligations.LaneReportsArrive
  intro s u f x accepted mirrored
  obtain ⟨intake, asm⟩ := s.mirrored_frame f
  rw [show s.mirrored f = u from mirrored.symm] at intake asm
  have delivered : exec (.laneReport f) s = .next (State.settle (u.deliverReport x)) := by
    rw [exec_laneReport_of_accepts accepted, mirrored]
    rfl
  have visit : s.visit = u.visit := by
    funext i
    rw [State.visit, State.visit, asm]
  rw [delivered, visit, ← intake, ← asm]
  refine ⟨fun room => ?_, fun full => ⟨u.gapMarked, u.gapMarked_get, fun flag => ?_, fun flag => ?_⟩⟩
  · rw [State.deliverReport_room x room]
  · rw [State.deliverReport_full x full, if_pos flag]
  · rw [State.deliverReport_full x full, if_neg (by simp [flag])]

/-! ### The direction engine at a lane point leaves the request queue -/

theorem State.fillQueue_mgmt (p : Point) (s : State) : (s.fillQueue p).mgmt = s.mgmt := by
  unfold State.fillQueue
  split
  · rfl
  · split <;> rfl

theorem State.headLeaves_mgmt (p : Point) (s : State) : (s.headLeaves p).mgmt = s.mgmt :=
  State.fillQueue_mgmt p _

theorem State.unconfirmed_requests (d : Direction) (s : State) : (s.unconfirmed d).mgmt.queue = s.mgmt.queue := by
  have raised : (s.raise .displayFault).mgmt.queue = s.mgmt.queue := State.raise_queue_mgmt _ _
  unfold State.unconfirmed
  dsimp only
  split
  · exact raised
  · split <;> exact raised

theorem State.barrierTest_requests (l : Lane) (s : State) : (s.barrierTest l).mgmt.queue = s.mgmt.queue := by
  unfold State.barrierTest
  split
  · rfl
  · split
    · unfold State.raiseBarrier
      dsimp only
      split
      · rfl
      · exact State.raise_queue_mgmt _ _
    · rfl

theorem laneHandOn_requests (p : Point) (d : Direction) (s : State) :
    (laneHandOn p d s).mgmt.queue = s.mgmt.queue := by
  unfold laneHandOn
  split
  · split
    · split
      · exact State.barrierTest_requests _ _
      · rfl
    · rfl
  · rfl

/-- The test of R151 at a lane point sends, retires and hands on, and takes no request meanwhile. -/
theorem State.serveLane_requests (p : Point) (s : State) : (s.serveLane p).mgmt.queue = s.mgmt.queue := by
  unfold State.serveLane
  apply State.servePoint_keeps (P := fun t => t.mgmt.queue = s.mgmt.queue)
  case sendUrgent => exact fun _ _ _ kept => kept
  case sendHead => exact fun _ _ _ kept => kept
  case retireUrgent => exact fun t d kept => (State.unconfirmed_requests d _).trans kept
  case retireHead =>
    intro t d kept
    rw [laneHandOn_requests, State.unconfirmed_requests, State.headLeaves_mgmt, kept]
  case hs => rfl

/-- An urgent placed at a lane's point leaves the request queue as it is (R155). -/
theorem State.placeUrgent_lane_requests (l : Lane) (d : Direction) (s : State) :
    (s.placeUrgent (lanePoint l) d).1.mgmt.queue = s.mgmt.queue := by
  unfold State.placeUrgent
  split
  · simp only [State.serve, pointLane_lanePoint]
    exact State.serveLane_requests _ _
  · rfl
  · dsimp only
    split <;> rfl

/-! ### LANE_OPEN, LANE_STOP and LANE_FLUSH (R21, R22, R23) -/

/-- The state in which a taken request is carried out: the request has left the queue (R166). -/
def State.taken (rest : List Request) (s : State) : State := { s with mgmt := { s.mgmt with queue := rest } }

section Taken

variable {s t : State} {tag n : Nat} {rest : List Request} {st : Status} {res : Results}

/-- What an effect that keeps the queue's rest answers. -/
theorem done_answer (kind : Nat) {a : Answer} (effect : a = (t, st, res)) (queue : t.mgmt.queue = rest) :
    done (answer tag kind a) = .next (State.settle (State.answeredWith rest ⟨tag, kind, st, res⟩ t)) := by
  rw [effect, answer_eq tag kind rest t st res queue, done_eq]

theorem exec_laneOpen_of_takes (h : s.takes tag (.laneOpen n) rest)
    (effect : (s.taken rest).laneOpen n = (t, st, res)) (queue : t.mgmt.queue = rest) :
    exec .laneOpen s = .next (State.settle (State.answeredWith rest ⟨tag, 22, st, res⟩ t)) := by
  show execLaneOpen s = _
  rw [execLaneOpen, State.takes_next h]
  exact done_answer 22 effect queue

theorem exec_laneStop_of_takes (h : s.takes tag (.laneStop n) rest)
    (effect : (s.taken rest).laneStop n = (t, st, res)) (queue : t.mgmt.queue = rest) :
    exec .laneStop s = .next (State.settle (State.answeredWith rest ⟨tag, 23, st, res⟩ t)) := by
  show execLaneStop s = _
  rw [execLaneStop, State.takes_next h]
  exact done_answer 23 effect queue

theorem exec_laneFlush_of_takes (h : s.takes tag (.laneFlush n) rest)
    (effect : (s.taken rest).laneFlush n = (t, st, res)) (queue : t.mgmt.queue = rest) :
    exec .laneFlush s = .next (State.settle (State.answeredWith rest ⟨tag, 24, st, res⟩ t)) := by
  show execLaneFlush s = _
  rw [execLaneFlush, State.takes_next h]
  exact done_answer 24 effect queue

end Taken

/-- A number that names no lane is refused with BAD_INDEX. -/
theorem State.onLane_badIndex {n : Nat} (s : State) (go : Lane → Answer) (h : n = 0 ∨ 12 < n) :
    s.onLane n go = refuse .badIndex s := by
  simp [State.onLane, place_none h]

theorem State.onLane_succ (s : State) (go : Lane → Answer) (l : Lane) : s.onLane (l.val + 1) go = go l := by
  simp [State.onLane, place_succ l]

theorem State.laneOpen_closed {s : State} {l : Lane} (h : (s.lane l).state = .closed) :
    s.laneOpen (l.val + 1) = granted (s.modLane l (fun x => { x with state := .opened })) := by
  simp [State.laneOpen, State.onLane_succ, h]

theorem State.laneOpen_opened {s : State} {l : Lane} (h : (s.lane l).state = .opened) :
    s.laneOpen (l.val + 1) = refuse .wrongState s := by
  simp [State.laneOpen, State.onLane_succ, h]

theorem State.laneStop_closed {s : State} {l : Lane} (h : (s.lane l).state = .closed) :
    s.laneStop (l.val + 1) = refuse .wrongState s := by
  simp [State.laneStop, State.onLane_succ, h]

theorem State.laneStop_opened {s : State} {l : Lane} (h : (s.lane l).state = .opened) :
    s.laneStop (l.val + 1) = granted
      (((s.closeLane l .laneStop).1.modLane l (fun x => { x with state := .closed })).placeUrgent (lanePoint l)
        { kind := .laneClosed }).1 (.visitNumber (s.closeLane l .laneStop).2) := by
  simp [State.laneStop, State.onLane_succ, h]

theorem State.laneFlush_lane (s : State) (l : Lane) :
    s.laneFlush (l.val + 1) = granted (s.closeLane l .flush).1 (.visitNumber (s.closeLane l .flush).2) := by
  simp [State.laneFlush, State.onLane_succ]

theorem State.closeLane_none {s : State} {l : Lane} (k : CloseReason) (h : (s.lane l).openVisit = none) :
    s.closeLane l k = (s, 0) := by
  simp [State.closeLane, h]

theorem State.closeLane_some {s : State} {l : Lane} {r : RecNo} (k : CloseReason)
    (h : (s.lane l).openVisit = some r) : s.closeLane l k = (s.closeRecord l r k, (s.visit r).number) := by
  simp [State.closeLane, h]

/-- A lane closes alike before and after a request is taken off the queue. -/
theorem State.closeLane_taken (rest : List Request) (s : State) (l : Lane) (k : CloseReason) :
    (s.taken rest).closeLane l k = ((s.closeLane l k).1.taken rest, (s.closeLane l k).2) := by
  cases h : (s.lane l).openVisit with
  | none =>
    rw [State.closeLane_none k h]
    exact State.closeLane_none (s := s.taken rest) k h
  | some r =>
    rw [State.closeLane_some k h]
    exact State.closeLane_some (s := s.taken rest) k h

/-- Settles O46: by the number's place and the lane's state; the stop's urgent leaves the request queue, so that the
response goes out from the queue's rest. -/
theorem lanesOpenStopAndFlush : Obligations.LanesOpenStopAndFlush := by
  unfold Obligations.LanesOpenStopAndFlush
  refine ⟨fun s tag n rest takes => ?_, fun s tag n rest closed closedIs => ⟨fun takes => ?_, fun takes => ?_⟩⟩
  · refine ⟨fun range => ?_, ?_⟩
    · exact (exec_laneOpen_of_takes takes (State.onLane_badIndex _ _ range) rfl).trans rfl
    · rintro l rfl
      exact ⟨fun state => (exec_laneOpen_of_takes takes (State.laneOpen_closed state) rfl).trans rfl,
        fun state => (exec_laneOpen_of_takes takes (State.laneOpen_opened state) rfl).trans rfl⟩
  · refine ⟨fun range => ?_, ?_⟩
    · exact (exec_laneStop_of_takes takes (State.onLane_badIndex _ _ range) rfl).trans rfl
    · rintro l rfl
      refine ⟨fun state => (exec_laneStop_of_takes takes (State.laneStop_closed state) rfl).trans rfl, ?_⟩
      rintro u v k state visit rfl
      have closing : s.closeLane l .laneStop = (u, k) := by
        rcases visit with ⟨noVisit, rfl, rfl⟩ | ⟨r, itsVisit, rfl, rfl⟩
        · exact State.closeLane_none _ noVisit
        · rw [State.closeLane_some _ itsVisit, closedIs]
          rfl
      have effect := State.laneStop_opened (s := s.taken rest) state
      rw [State.closeLane_taken, closing] at effect
      exact exec_laneStop_of_takes takes effect (State.placeUrgent_lane_requests l _ _)
  · refine ⟨fun range => ?_, ?_⟩
    · exact (exec_laneFlush_of_takes takes (State.onLane_badIndex _ _ range) rfl).trans rfl
    · rintro l rfl
      have effect := (s.taken rest).laneFlush_lane l
      rw [State.closeLane_taken] at effect
      refine ⟨fun noVisit => ?_, fun r itsVisit => ?_⟩
      · rw [State.closeLane_none _ noVisit] at effect
        exact (exec_laneFlush_of_takes takes effect rfl).trans rfl
      · rw [State.closeLane_some _ itsVisit] at effect
        rw [closedIs]
        exact (exec_laneFlush_of_takes takes effect rfl).trans rfl

end Sys2Proof.Machine
end

section
/-! Proofs: what a report merged into its visit leaves alone, the merges of seals and panels, and the check digit. -/

namespace Sys2Proof.Machine

open Sys2Proof

/-! ### What the watch matcher and the direction engine keep (R101, R102) -/

/-- What neither an arrival-time call nor the STOP it issues changes: everything but the ports, the direction engine,
the notice flags, the part's counters and what a visit record holds beside its read fields. -/
structure MergeKept where
  intake : Intake
  visits : RecNo → Reads
  freeList : List RecNo
  nextNumber : Nat
  lanes : Vector LaneRecord 12
  watch : Vector WatchEntry 64
  check : CheckUnit
  store : TableStore
  ring : Ring
  pacer : Pacer
  mgmt : Mgmt

/-- That part of a state, the flags and the part's counters blanked. -/
def State.mergeKept (s : State) : MergeKept :=
  { intake := s.intake
    visits := fun i => (s.visit i).readFields
    freeList := s.asm.freeList
    nextNumber := s.asm.nextNumber
    lanes := s.asm.lanes
    watch := s.watch
    check := s.check
    store := s.store
    ring := s.ring
    pacer := s.pacer
    mgmt := { s.mgmt with flags := { }, noticeWaiting := false, partCounters := { } } }

section Updates

variable (s : State)

@[simp] theorem State.modPoint_mergeKept (p : Point) (f : PointState → PointState) :
    (s.modPoint p f).mergeKept = s.mergeKept := rfl

@[simp] theorem State.modBarrier_mergeKept (l : Lane) (f : Barrier → Barrier) :
    (s.modBarrier l f).mergeKept = s.mergeKept := rfl

@[simp] theorem State.modDepartures_mergeKept (l : Lane) (f : List Departure → List Departure) :
    (s.modDepartures l f).mergeKept = s.mergeKept := rfl

@[simp] theorem State.setPendings_mergeKept (q : List PendingDirection) :
    (s.setPendings q).mergeKept = s.mergeKept := rfl

@[simp] theorem State.placeLane_mergeKept (x : LaneSender) : (s.placeLane x).mergeKept = s.mergeKept := rfl

@[simp] theorem State.count_mergeKept (k : PartCounter) : (s.count k).mergeKept = s.mergeKept := rfl

@[simp] theorem State.raise_mergeKept (c : NoticeClass) : (s.raise c).mergeKept = s.mergeKept := by
  rcases s.raise_cases c with ⟨-, same⟩ | ⟨-, raised⟩
  · rw [same]
  · rw [raised]
    rfl

@[simp] theorem State.settle_mergeKept : s.settle.mergeKept = s.mergeKept := by
  obtain ⟨_, _, settled, -⟩ := s.settle_cases
  rw [settled]
  rfl

/-- A change of a visit beside its read fields is not seen. -/
theorem State.modVisit_mergeKept (r : RecNo) {f : Visit → Visit} (reads : ∀ v, (f v).readFields = v.readFields) :
    (s.modVisit r f).mergeKept = s.mergeKept := by
  have visits : (fun i => ((s.modVisit r f).visit i).readFields) = fun i => (s.visit i).readFields := by
    funext i
    by_cases own : i = r
    · rw [own, State.modVisit_visit_same, reads]
    · rw [State.modVisit_visit_other f s own]
  simp [State.mergeKept, visits]

@[simp] theorem State.mark_mergeKept (r : RecNo) (k : Mark) : (s.mark r k).mergeKept = s.mergeKept :=
  s.modVisit_mergeKept r fun _ => rfl

@[simp] theorem State.setVisitState_mergeKept (r : RecNo) (x : VisitState) :
    (s.setVisitState r x).mergeKept = s.mergeKept :=
  s.modVisit_mergeKept r fun _ => rfl

@[simp] theorem State.fillQueue_mergeKept (p : Point) : (s.fillQueue p).mergeKept = s.mergeKept := by
  unfold State.fillQueue
  split
  · rfl
  · split <;> rfl

@[simp] theorem State.headLeaves_mergeKept (p : Point) : (s.headLeaves p).mergeKept = s.mergeKept :=
  State.fillQueue_mergeKept _ p

@[simp] theorem State.unconfirmed_mergeKept (d : Direction) : (s.unconfirmed d).mergeKept = s.mergeKept := by
  unfold State.unconfirmed
  dsimp only
  split
  · simp
  · split <;> simp

@[simp] theorem State.barrierTest_mergeKept (l : Lane) : (s.barrierTest l).mergeKept = s.mergeKept := by
  unfold State.barrierTest
  split
  · rfl
  · split
    · unfold State.raiseBarrier
      dsimp only
      split <;> simp
    · rfl

@[simp] theorem laneHandOn_mergeKept (p : Point) (d : Direction) : (laneHandOn p d s).mergeKept = s.mergeKept := by
  unfold laneHandOn
  split
  · split
    · split
      · exact State.barrierTest_mergeKept _ _
      · rfl
    · rfl
  · rfl

/-- The test of R151 at a lane point works on the direction engine, on marks and on visit states. -/
@[simp] theorem State.serveLane_mergeKept (p : Point) : (s.serveLane p).mergeKept = s.mergeKept := by
  unfold State.serveLane
  apply State.servePoint_keeps (P := fun t => t.mergeKept = s.mergeKept)
  case sendUrgent => exact fun _ _ _ kept => kept
  case sendHead => exact fun _ _ _ kept => kept
  case retireUrgent => exact fun t d kept => (State.unconfirmed_mergeKept _ d).trans kept
  case retireHead => exact fun t d kept => by simp [kept]
  case hs => rfl

@[simp] theorem State.placeUrgent_lane_mergeKept (l : Lane) (d : Direction) :
    (s.placeUrgent (lanePoint l) d).1.mergeKept = s.mergeKept := by
  unfold State.placeUrgent
  split
  · simp [State.serve]
  · simp
  · dsimp only
    split <;> simp

@[simp] theorem State.issueStop_mergeKept (r : RecNo) : (s.issueStop r).mergeKept = s.mergeKept := by
  simp [State.issueStop]

theorem State.testOnArrival_mergeKept (r : RecNo) (kind : KeyKind) (value : WatchValue) (i : Fin 64) :
    (s.testOnArrival r kind value i).mergeKept = s.mergeKept := by
  have hit : (s.modVisit r (fun v => v.recordHit i.val s.watch[i])).mergeKept = s.mergeKept :=
    s.modVisit_mergeKept r fun _ => rfl
  unfold State.testOnArrival
  dsimp only
  split
  · split
    · rw [State.issueStop_mergeKept, hit]
    · exact hit
  · rfl

theorem State.arrivalPasses_mergeKept (r : RecNo) (kind : KeyKind) (value : WatchValue) (k : Nat) :
    (s.arrivalPasses r kind value k).mergeKept = s.mergeKept := by
  induction k generalizing s with
  | zero => rfl
  | succ k ih =>
    have pass : (s.arrivalPass r kind value).mergeKept = s.mergeKept :=
      forEach_keeps (P := fun t => t.mergeKept = s.mergeKept)
        (fun i t kept => (t.testOnArrival_mergeKept r kind value i).trans kept) rfl
    unfold State.arrivalPasses
    dsimp only
    split
    · exact pass
    · rw [ih, pass]

@[simp] theorem State.watchCall_mergeKept (r : RecNo) (kind : KeyKind) (value : WatchValue) :
    (s.watchCall r kind value).mergeKept = s.mergeKept :=
  s.arrivalPasses_mergeKept r kind value 65

end Updates

/-! ### A report taken for its lane's visit (R14, R30, R31) -/

/-- A visit with its fragment count set. -/
def Visit.withFragments (v : Visit) (n : Nat) : Visit := { v with fragments := n }

section Taking

variable {s t : State} {st n : Nat} {q : List LaneReport} {l : Lane} {r : RecNo} {b : ReportBody} {v : Visit}

@[simp] theorem State.takenAs_visit : (s.takenAs q l r v).visit r = v := by
  simp [State.takenAs, State.visit]

theorem State.takenAs_visit_other {i : RecNo} (other : i ≠ r) : (s.takenAs q l r v).visit i = s.visit i := by
  have places : r.val ≠ i.val := fun same => other (Fin.ext same.symm)
  simp [State.takenAs, State.visit, Vector.getElem_set_ne, places]

theorem State.takenAs_lane :
    (s.takenAs q l r v).lane l = { s.lane l with idleCountdown := some s.mgmt.params.idleLimit } := by
  simp [State.takenAs, State.lane]

theorem State.takenAs_lane_other {m : Lane} (other : m ≠ l) : (s.takenAs q l r v).lane m = s.lane m := by
  have places : l.val ≠ m.val := fun same => other (Fin.ext same.symm)
  simp [State.takenAs, State.lane, Vector.getElem_set_ne, places]

theorem State.takenAs_reportsTaken :
    ((s.takenAs q l r v).mgmt.laneCounters[l]).reportsTaken = satInc max32 (s.mgmt.laneCounters[l]).reportsTaken := by
  simp [State.takenAs, State.countLane, LaneCounters.bump]

@[simp] theorem State.takenAs_params : (s.takenAs q l r v).mgmt.params = s.mgmt.params := rfl

@[simp] theorem State.takenAs_partCounters : (s.takenAs q l r v).mgmt.partCounters = s.mgmt.partCounters := rfl

/-- A change of the visit taken for is a change of what it is left as. -/
theorem State.takenAs_modVisit (f : Visit → Visit) :
    (s.takenAs q l r v).modVisit r f = s.takenAs q l r (f v) := by
  simp [State.takenAs, State.modVisit, State.countLane, updAt]

/-- A mergeable report within the first 32 is merged into the visit with its fragment counted. -/
theorem State.routeMergeable_merges (reads : s.reads st b q l) (merges : s.mergesInto l r n) (few : n ≤ 32) :
    s.dropReport.routeMergeable ⟨st, b⟩
      = (s.takenAs q l r ((s.visit r).withFragments n)).mergeBody r b := by
  obtain ⟨queue, e, station, point⟩ := reads
  obtain ⟨opened, pointer, fragments⟩ := merges
  have found : s.dropReport.stationOf st = some e := station
  have laneOpened : ((s.dropReport.countLane l .reportsTaken).lane l).state = .opened := opened
  have laneVisit : ((s.dropReport.countLane l .reportsTaken).lane l).openVisit = some r := pointer
  have fragment : (s.dropReport.countLane l .reportsTaken).takeFragment l r
      = s.takenAs q l r ((s.visit r).withFragments n) := by
    have count : satInc max16 (((s.dropReport.countLane l .reportsTaken).visit r).fragments) = n := fragments.symm
    have within : ¬ 33 ≤ n := by omega
    simp only [State.takeFragment, count, within, if_false]
    simp only [State.dropReport, queue]
    rfl
  have room : ((s.takenAs q l r ((s.visit r).withFragments n)).visit r).fragments ≤ 32 := by
    rw [State.takenAs_visit]
    exact few
  simp only [State.routeMergeable, found, State.routeLane, point, State.mergeable, laneOpened, laneVisit,
    State.takeFor, fragment, if_pos room]

/-- The command of a mergeable report routes it when it is the oldest of the intake queue (R8, R30). -/
theorem exec_command_taken (mergeable : b.mergeable = true) (queue : s.intake.queue = ⟨st, b⟩ :: q) :
    exec b.command s = done (s.dropReport.routeMergeable ⟨st, b⟩) := by
  match b, mergeable, queue with
  | .plate .., _, queue => simp only [ReportBody.command, exec, execPlateRead, queue]
  | .container .., _, queue => simp only [ReportBody.command, exec, execContainerRead, queue]
  | .credential .., _, queue => simp only [ReportBody.command, exec, execCredentialRead, queue]
  | .booking .., _, queue => simp only [ReportBody.command, exec, execBookingEntry, queue]
  | .seal .., _, queue => simp only [ReportBody.command, exec, execSealRead, queue]
  | .damage .., _, queue => simp only [ReportBody.command, exec, execDamagePanel, queue]

/-- The command of a mergeable report takes it off the queue and merges it into its lane's visit. -/
theorem exec_command_merges (mergeable : b.mergeable = true) (reads : s.reads st b q l) (merges : s.mergesInto l r n)
    (few : n ≤ 32) :
    exec b.command s
      = .next (State.settle ((s.takenAs q l r ((s.visit r).withFragments n)).mergeBody r b)) := by
  rw [exec_command_taken mergeable reads.1, State.routeMergeable_merges reads merges few, done_eq]

/-- A state that agrees with the report taken keeps what taking a mergeable report keeps and the read fields. -/
theorem takenAs_frame (merges : s.mergesInto l r n) (kept : t.mergeKept = (s.takenAs q l r v).mergeKept) :
    t.intake.queue = q ∧ MergeFrame s t l r ∧ MergeLane s t l r ∧ (t.visit r).readFields = v.readFields := by
  obtain ⟨-, pointer, -⟩ := merges
  simp only [State.mergeKept, MergeKept.mk.injEq, Mgmt.mk.injEq] at kept
  obtain ⟨intake, visits, freeList, nextNumber, lanes, watch, check, store, ring, pacer, unit, queue, params, mask, -,
    -, laneCounters, -, clock, reportQueue, reportWait, hold, reportNumber, unitAddr, typeHigh⟩ := kept
  have lane (m : Lane) : t.lane m = (s.takenAs q l r v).lane m := by rw [State.lane, State.lane, lanes]
  have ownLane := lane l
  rw [State.takenAs_lane] at ownLane
  refine ⟨by rw [intake]; rfl, ⟨?_, ⟨check, store, ring, pacer, clock⟩,
    ⟨reportQueue, reportWait, hold, reportNumber, queue, unit⟩, freeList, nextNumber, ?_, ?_, ?_, ?_⟩, ⟨?_, ?_⟩, ?_⟩
  · exact ⟨by rw [intake]; rfl, by rw [intake]; rfl, watch, params, mask, unitAddr, typeHigh⟩
  · exact fun m other => (lane m).trans (State.takenAs_lane_other other)
  · rw [intake]; rfl
  · rw [intake]; rfl
  · intro i other
    rw [congrFun visits i, State.takenAs_visit_other other]
  · rw [ownLane, ← pointer]
  · rw [laneCounters, State.takenAs_reportsTaken]
  · rw [congrFun visits r, State.takenAs_visit]

end Taking

/-! ### Seals (R39) -/

/-- The seal list after a merge: a tamper joins a known text, a new text joins a list of fewer than 3. -/
theorem mergeSeal_list (old : List SealEntry) (x : Text) (tamper : Bool) :
    (mergeSeal old x tamper).1
      = if ∃ e ∈ old, e.text = x then old.map (fun e => if e.text = x then ⟨x, e.tamper || tamper⟩ else e)
        else if old.length < 3 then old ++ [⟨x, tamper⟩]
        else old := by
  have entry : (fun e : SealEntry => if e.text = x then { e with tamper := e.tamper || tamper } else e)
      = fun e => if e.text = x then ⟨x, e.tamper || tamper⟩ else e := by
    funext e
    split
    · next same => rw [← same]
    · rfl
  simp only [mergeSeal, List.any_eq_true, beq_iff_eq, entry]
  split
  · rfl
  · split <;> rfl

theorem mergeSeal_known {old : List SealEntry} {x : Text} (tamper : Bool) (known : ∃ e ∈ old, e.text = x) :
    (mergeSeal old x tamper).2 = .known := by
  simp only [mergeSeal, List.any_eq_true, beq_iff_eq, if_pos known]

theorem mergeSeal_joined {old : List SealEntry} {x : Text} (tamper : Bool) (new : ∀ e ∈ old, e.text ≠ x)
    (room : old.length < 3) : (mergeSeal old x tamper).2 = .joined := by
  have unknown : ¬ ∃ e ∈ old, e.text = x := fun ⟨e, listed, same⟩ => new e listed same
  simp only [mergeSeal, List.any_eq_true, beq_iff_eq, if_neg unknown, if_pos room]

theorem mergeSeal_excess {old : List SealEntry} {x : Text} (tamper : Bool) (new : ∀ e ∈ old, e.text ≠ x)
    (full : 3 ≤ old.length) : mergeSeal old x tamper = (old, .excess) := by
  have unknown : ¬ ∃ e ∈ old, e.text = x := fun ⟨e, listed, same⟩ => new e listed same
  simp only [mergeSeal, List.any_eq_true, beq_iff_eq, if_neg unknown, if_neg (Nat.not_lt.mpr full)]

/-- An excess seal leaves the list as it is. -/
theorem mergeSeal_excess_list {old : List SealEntry} {x : Text} {tamper : Bool}
    (excess : (mergeSeal old x tamper).2 = .excess) : (mergeSeal old x tamper).1 = old := by
  unfold mergeSeal at excess ⊢
  split at excess
  · cases excess
  · next unknown =>
    split at excess
    · cases excess
    · next full => rw [if_neg unknown, if_neg full]

/-- A visit with the seal list of a position set. -/
def Visit.withSeals (v : Visit) (p : Pos) (seals : List SealEntry) : Visit :=
  v.modAt (fun d => { d with seals := seals }) p

theorem Visit.withSeals_same (v : Visit) (p : Pos) : v.withSeals p (v.at p).seals = v := by cases p <;> rfl

/-- What follows the merge of a seal (R39, R41): nothing, the watch matcher's call, or the excess counted. -/
def State.afterSeal (r : RecNo) (x : Text) (m : SealMerge) (s : State) : State :=
  match m with
  | .known => s
  | .joined => s.watchCall r .seal (.text x)
  | .excess => s.count .excessSeals

theorem State.afterSeal_mergeKept (r : RecNo) (x : Text) (m : SealMerge) (s : State) :
    (s.afterSeal r x m).mergeKept = s.mergeKept := by
  cases m <;> simp [State.afterSeal]

/-- The seal list is written in every case, in the last with what it held. -/
theorem State.mergeSeal_takenAs (s : State) (q : List LaneReport) (l : Lane) (r : RecNo) (v : Visit) (p : Pos)
    (x : Text) (tamper : Bool) :
    (s.takenAs q l r v).mergeSeal r p x tamper
      = (s.takenAs q l r (v.withSeals p (Machine.mergeSeal (v.at p).seals x tamper).1)).afterSeal r x
          (Machine.mergeSeal (v.at p).seals x tamper).2 := by
  simp only [State.mergeSeal, State.takenAs_visit, State.takenAs_modVisit]
  cases result : (Machine.mergeSeal (v.at p).seals x tamper).2 with
  | known => rfl
  | joined => rfl
  | excess =>
    rw [mergeSeal_excess_list result, Visit.withSeals_same]
    rfl

/-! ### The floor and the position (R32, R33) -/

/-- A report below the floor or without a position is counted, and its visit left as it was taken (R32, R33). -/
theorem counted_settled {s : State} {q : List LaneReport} {l : Lane} {r : RecNo} {v : Visit} {u : State}
    {k : PartCounter} (counted : u = (s.takenAs q l r v).count k) :
    (u.settle.visit r).readFields = v.readFields ∧ u.settle.mgmt.partCounters = s.mgmt.partCounters.bump k := by
  subst counted
  rw [State.settle_visit, State.count_visit, State.takenAs_visit, State.settle_partCounters_mgmt]
  exact ⟨rfl, rfl⟩

theorem State.aboveFloor_below {s : State} {c : Nat} (merge : State → State) (low : c < s.mgmt.params.confidenceFloor) :
    s.aboveFloor c merge = s.count .lowConfidence := if_pos low

theorem State.aboveFloor_above {s : State} {c : Nat} (merge : State → State)
    (high : s.mgmt.params.confidenceFloor ≤ c) : s.aboveFloor c merge = merge s := if_neg (Nat.not_lt.mpr high)

theorem State.atPosition_bad {p : Nat} (s : State) (merge : Pos → State → State) (not1 : p ≠ 1) (not2 : p ≠ 2) :
    s.atPosition p merge = s.count .badPosition := by
  simp [State.atPosition, pos?, not1, not2]

/-- The number a position goes by in a report (R33). -/
def Pos.number : Pos → Nat
  | .one => 1
  | .two => 2

theorem State.atPosition_number (s : State) (merge : Pos → State → State) (p : Pos) :
    s.atPosition p.number merge = merge p s := by cases p <;> rfl

/-- A report names a position by its number, or none (R33). -/
theorem Pos.number_cases (n : Nat) : (n ≠ 1 ∧ n ≠ 2) ∨ ∃ p : Pos, n = p.number := by
  by_cases one : n = 1
  · exact .inr ⟨.one, one⟩
  · by_cases two : n = 2
    · exact .inr ⟨.two, two⟩
    · exact .inl ⟨one, two⟩

/-! ### SEAL_READ (R32, R33, R39) -/

section Seals

variable {s : State} {q : List LaneReport} {l : Lane} {r : RecNo} {n : Nat} {v : Visit} {x : Text} {tamper : Bool}
  {p c : Nat}

theorem State.mergeBody_seal (u : State) :
    u.mergeBody r (.seal p x tamper c)
      = u.aboveFloor c (fun w => w.atPosition p (fun pos y => y.mergeSeal r pos x tamper)) := rfl

theorem State.mergeBody_seal_below (low : c < s.mgmt.params.confidenceFloor) :
    (s.takenAs q l r v).mergeBody r (.seal p x tamper c) = (s.takenAs q l r v).count .lowConfidence := by
  rw [State.mergeBody_seal, State.aboveFloor_below (s := s.takenAs q l r v) _ low]

theorem State.mergeBody_seal_bad (high : s.mgmt.params.confidenceFloor ≤ c) (not1 : p ≠ 1) (not2 : p ≠ 2) :
    (s.takenAs q l r v).mergeBody r (.seal p x tamper c) = (s.takenAs q l r v).count .badPosition := by
  rw [State.mergeBody_seal, State.aboveFloor_above (s := s.takenAs q l r v) _ high, State.atPosition_bad _ _ not1 not2]

theorem State.mergeBody_seal_at {pos : Pos} (named : p = pos.number) (high : s.mgmt.params.confidenceFloor ≤ c) :
    (s.takenAs q l r v).mergeBody r (.seal p x tamper c)
      = (s.takenAs q l r (v.withSeals pos (Machine.mergeSeal (v.at pos).seals x tamper).1)).afterSeal r x
          (Machine.mergeSeal (v.at pos).seals x tamper).2 := by
  rw [State.mergeBody_seal, State.aboveFloor_above (s := s.takenAs q l r v) _ high, named, State.atPosition_number,
    State.mergeSeal_takenAs]

/-- Whatever a seal read does, it leaves beside its visit what taking the report left. -/
theorem State.mergeBody_seal_kept (s : State) (q : List LaneReport) (l : Lane) (r : RecNo) (v : Visit) (p : Nat)
    (x : Text) (tamper : Bool) (c : Nat) :
    ∃ w, ((s.takenAs q l r v).mergeBody r (.seal p x tamper c)).mergeKept = (s.takenAs q l r w).mergeKept := by
  rcases Nat.lt_or_ge c s.mgmt.params.confidenceFloor with low | high
  · exact ⟨v, by rw [State.mergeBody_seal_below low, State.count_mergeKept]⟩
  · rcases Pos.number_cases p with ⟨not1, not2⟩ | ⟨pos, named⟩
    · exact ⟨v, by rw [State.mergeBody_seal_bad high not1 not2, State.count_mergeKept]⟩
    · exact ⟨_, by rw [State.mergeBody_seal_at named high, State.afterSeal_mergeKept]⟩

/-- At a position and above the floor, the read fields are those with the merged list, and an excess seal is counted. -/
theorem seal_at_settled (merges : s.mergesInto l r n) {pos : Pos} (named : p = pos.number)
    (high : s.mgmt.params.confidenceFloor ≤ c) :
    ((((s.takenAs q l r v).mergeBody r (.seal p x tamper c)).settle).visit r).readFields
        = (v.withSeals pos (mergeSeal (v.at pos).seals x tamper).1).readFields
      ∧ ((∀ e ∈ (v.at pos).seals, e.text ≠ x) ∧ 3 ≤ (v.at pos).seals.length →
          (((s.takenAs q l r v).mergeBody r (.seal p x tamper c)).settle).mgmt.partCounters
            = s.mgmt.partCounters.bump .excessSeals) := by
  rw [State.mergeBody_seal_at named high]
  constructor
  · obtain ⟨-, -, -, fields⟩ := takenAs_frame merges ((State.settle_mergeKept _).trans (State.afterSeal_mergeKept ..))
    exact fields
  · rintro ⟨new, full⟩
    rw [mergeSeal_excess tamper new full, State.settle_partCounters_mgmt]
    rfl

/-- The state itself at a position and above the floor: by what the merge of the list was (R41). -/
theorem seal_at_states {pos : Pos} (named : p = pos.number) (high : s.mgmt.params.confidenceFloor ≤ c)
    {old : List SealEntry} {w : Visit} {u t : State}
    (oldIs : old = (v.at pos).seals)
    (wIs : w = v.withSeals pos (mergeSeal old x tamper).1) (uIs : u = s.takenAs q l r w)
    (tIs : t = ((s.takenAs q l r v).mergeBody r (.seal p x tamper c)).settle) :
    ((∀ e ∈ old, e.text ≠ x) → old.length < 3 → t = (u.watchCall r .seal (.text x)).settle)
      ∧ ((∃ e ∈ old, e.text = x) → t = u.settle)
      ∧ ((∀ e ∈ old, e.text ≠ x) ∧ 3 ≤ old.length → t = (u.count .excessSeals).settle) := by
  rw [State.mergeBody_seal_at named high, ← oldIs, ← wIs, ← uIs] at tIs
  subst tIs
  refine ⟨fun new room => ?_, fun known => ?_, fun ⟨new, full⟩ => ?_⟩
  · rw [mergeSeal_joined tamper new room]
    rfl
  · rw [mergeSeal_known tamper known]
    rfl
  · rw [mergeSeal_excess tamper new full]
    rfl

end Seals

/-! ### DAMAGE_PANEL (R33, R40) -/

theorem PerPanel.get_put (panels : PerPanel α) (x : α) (k j : Panel) :
    (panels.put x k).get j = if j = k then x else panels.get j := by
  cases k <;> cases j <;> rfl

/-- The panel takes the higher severity, a panel not yet scanned the reported one, and every other panel stays. -/
theorem mergePanel_get (panels : PerPanel (Option Nat)) (k : Panel) (severity : Nat) (j : Panel) :
    (mergePanel panels k severity).get j
      = if j = k then some (match panels.get k with
          | none => severity
          | some w => if w < severity then severity else w)
        else panels.get j := by
  rw [mergePanel, PerPanel.get_put]
  cases panels.get k with
  | none => simp
  | some w =>
    have higher : max w severity = if w < severity then severity else w := by
      split <;> omega
    rw [Option.getD_some, higher]

/-- A visit with a damage panel merged at a position. -/
def Visit.withDamage (v : Visit) (p : Pos) (k : Panel) (severity : Nat) : Visit :=
  v.modAt (fun d => { d with panels := mergePanel d.panels k severity }) p

section Damage

variable {s : State} {p : Nat} {q : List LaneReport} {l : Lane} {r : RecNo} {v : Visit} {k : Panel} {severity : Nat}

theorem State.mergeBody_damage_bad (u : State) (not1 : p ≠ 1) (not2 : p ≠ 2) :
    u.mergeBody r (.damage p k severity) = u.count .badPosition :=
  State.atPosition_bad u _ not1 not2

theorem State.mergeBody_damage_at {pos : Pos} (named : p = pos.number) :
    (s.takenAs q l r v).mergeBody r (.damage p k severity)
      = s.takenAs q l r (v.withDamage pos k severity) := by
  rw [named]
  exact (State.atPosition_number _ _ pos).trans (State.takenAs_modVisit _)

theorem State.mergeBody_damage_kept (s : State) (q : List LaneReport) (l : Lane) (r : RecNo) (v : Visit) (p : Nat)
    (k : Panel) (severity : Nat) :
    ∃ w, ((s.takenAs q l r v).mergeBody r (.damage p k severity)).mergeKept = (s.takenAs q l r w).mergeKept := by
  rcases Pos.number_cases p with ⟨not1, not2⟩ | ⟨pos, named⟩
  · exact ⟨v, by rw [State.mergeBody_damage_bad _ not1 not2, State.count_mergeKept]⟩
  · exact ⟨_, by rw [State.mergeBody_damage_at named]⟩

end Damage

/-- Settles O22: a report is merged into the visit as it was taken for it, and each clause is the case of the merge that
its premises name. -/
theorem sealsAndPanelsMerge : Obligations.SealsAndPanelsMerge := by
  unfold Obligations.SealsAndPanelsMerge
  constructor
  · intro s st p x tamper c q l r n reads merges few
    obtain ⟨w, kept⟩ := s.mergeBody_seal_kept q l r ((s.visit r).withFragments n) p x tamper c
    obtain ⟨queue, frame, lane, -⟩ := takenAs_frame merges ((State.settle_mergeKept _).trans kept)
    refine ⟨_, exec_command_merges (b := .seal p x tamper c) rfl reads merges few, queue, frame, lane,
      fun low => ?_, fun high not1 not2 => ?_, ?_⟩
    · exact counted_settled (State.mergeBody_seal_below low)
    · exact counted_settled (State.mergeBody_seal_bad high not1 not2)
    · intro merged full
      have list (old : List SealEntry) : merged old = (mergeSeal old x tamper).1 := (mergeSeal_list old x tamper).symm
      simp only [list]
      refine ⟨?_, ?_, ?_⟩
      · intro high one
        exact seal_at_settled merges (pos := .one) one high
      · intro high two
        exact seal_at_settled merges (pos := .two) two high
      · rintro high old v u (⟨one, oldIs, vIs⟩ | ⟨two, oldIs, vIs⟩) uIs
        · exact seal_at_states (pos := .one) (v := (s.visit r).withFragments n) one high oldIs vIs uIs rfl
        · exact seal_at_states (pos := .two) (v := (s.visit r).withFragments n) two high oldIs vIs uIs rfl
  · intro s st p k severity q l r n reads merges few
    obtain ⟨w, kept⟩ := s.mergeBody_damage_kept q l r ((s.visit r).withFragments n) p k severity
    obtain ⟨queue, frame, lane, -⟩ := takenAs_frame merges ((State.settle_mergeKept _).trans kept)
    refine ⟨_, exec_command_merges (b := .damage p k severity) rfl reads merges few, queue, frame, lane,
      fun not1 not2 => ?_, ?_⟩
    · exact counted_settled (State.mergeBody_damage_bad _ not1 not2)
    · rintro old new (⟨one, rfl, rfl⟩ | ⟨two, rfl, rfl⟩)
      · rw [State.mergeBody_damage_at (pos := .one) one, State.settle_visit, State.takenAs_visit]
        exact ⟨rfl, fun _ => rfl, fun two => by omega, mergePanel_get _ k severity, rfl⟩
      · rw [State.mergeBody_damage_at (pos := .two) two, State.settle_visit, State.takenAs_visit]
        exact ⟨rfl, fun one => by omega, fun _ => rfl, mergePanel_get _ k severity, rfl⟩

/-! ### The check digit (R37, TABLE 2-3) -/

/-- The weighted sum by places: the character at place i weighs 2^i times the first weight. -/
theorem weightedSum_eq_sum (x : Text) (weight : Nat) :
    weightedSum weight x
      = ((List.range x.length).map (fun i => charValue (x.getD i 0) * (weight * 2 ^ i))).sum := by
  induction x generalizing weight with
  | nil => rfl
  | cons b rest ih =>
    have places : (fun i => charValue (rest.getD i 0) * (2 * weight * 2 ^ i))
        = (fun i => charValue ((b :: rest).getD i 0) * (weight * 2 ^ i)) ∘ Nat.succ := by
      funext i
      simp only [Function.comp_apply, List.getD_cons_succ, Nat.succ_eq_add_one]
      ring
    rw [weightedSum, ih, List.length_cons, List.range_succ_eq_map, List.map_cons, List.sum_cons, List.map_map, places]
    simp

/-- The check value of a number of 11 characters, by places (R37, steps 2 and 3). -/
theorem checkValue_eq_sum {x : Text} (length : x.length = 11) :
    checkValue x = (((List.range 10).map (fun i => charValue (x.getD i 0) * 2 ^ i)).sum % 11) % 10 := by
  have places : (List.range 10).map (fun i => charValue ((x.take 10).getD i 0) * (1 * 2 ^ i))
      = (List.range 10).map (fun i => charValue (x.getD i 0) * 2 ^ i) := by
    refine List.map_congr_left fun i below => ?_
    have : i < 10 := List.mem_range.mp below
    simp [List.getD, this]
  rw [checkValue, weightedSum_eq_sum, List.length_take, length, show min 10 11 = 10 from rfl, places]

/-- A test of the characters from place a up to place b. -/
theorem all_between {x : Text} {test : Byte → Bool} {a b : Nat} (long : b ≤ x.length) :
    ((x.take b).drop a).all test = true ↔ ∀ i, a ≤ i → i < b → test (x.getD i 0) = true := by
  rw [List.all_eq_true, List.forall_mem_iff_getElem]
  simp only [List.length_drop, List.length_take, Nat.min_eq_left long, List.getElem_drop, List.getElem_take]
  constructor
  · intro tested i from_ below
    have := tested (i - a) (by omega)
    rw [List.getD_eq_getElem _ _ (by omega : i < x.length)]
    simpa only [Nat.add_sub_cancel' from_] using this
  · intro tested i below
    have := tested (a + i) (by omega) (by omega)
    rwa [List.getD_eq_getElem _ _ (by omega : a + i < x.length)] at this

theorem isLetter_iff (b : Byte) : isLetter b = true ↔ 65 ≤ b.toNat ∧ b.toNat ≤ 90 := by simp [isLetter]

theorem isDigit_iff (b : Byte) : isDigit b = true ↔ 48 ≤ b.toNat ∧ b.toNat ≤ 57 := by simp [isDigit]

/-- Four letters, then seven digits, by places (R37). -/
theorem isContainerNumber_iff (x : Text) :
    isContainerNumber x = true ↔
      x.length = 11 ∧ (∀ i, i < 4 → 65 ≤ byteAt x i ∧ byteAt x i ≤ 90)
        ∧ ∀ i, 4 ≤ i → i < 11 → 48 ≤ byteAt x i ∧ byteAt x i ≤ 57 := by
  rw [isContainerNumber, Bool.and_eq_true, Bool.and_eq_true, decide_eq_true_iff, and_assoc]
  refine and_congr_right fun length => and_congr ?_ ?_
  · have letters := all_between (x := x) (test := isLetter) (a := 0) (b := 4) (by omega)
    simpa [isLetter_iff, byteAt] using letters
  · have digits := all_between (x := x) (test := isDigit) (a := 4) (b := 11) (by omega)
    rw [List.take_of_length_le (by omega)] at digits
    simpa only [isDigit_iff, byteAt] using digits

/-- The eleventh character is the one compared with the check value (R37, step 4). -/
theorem lastDigit_eq {x : Text} (length : x.length = 11) :
    (x.drop 10).head?.map digitValue = some (byteAt x 10 - 48) := by
  have last : 10 < x.length := by omega
  rw [List.head?_drop, List.getElem?_eq_getElem last, byteAt, List.getD_eq_getElem _ _ last]
  rfl

/-- Settles O23: the weighted sum and the two halves of the number by places; TABLE 2-3 by evaluation. -/
theorem checkDigitsVerify : Obligations.CheckDigitsVerify := by
  unfold Obligations.CheckDigitsVerify
  refine ⟨fun x => ?_, by decide, by decide⟩
  rw [verified, Bool.and_eq_true, isContainerNumber_iff, beq_iff_eq, and_assoc, and_assoc]
  refine and_congr_right fun length => and_congr_right fun _ => and_congr_right fun _ => ?_
  rw [lastDigit_eq length, checkValue_eq_sum length, Option.some_inj]

end Sys2Proof.Machine
end

section
/-! Proofs: the requests that write, delete and read windows, and the other reads of the management unit. -/

namespace Sys2Proof.Machine

open Sys2Proof

/-! ### The slots of the ring (R61, R64, R65) -/

/-- The window of a period is its slot's, if that carries the period. -/
theorem Ring.window?_eq_filter (r : Ring) (p : Nat) :
    r.window? p = (r.slots[slotOf p]).filter (fun w => decide (w.period = p)) := by
  unfold Ring.window?
  split
  next w held => simp only [held, Option.filter_some, decide_eq_true_eq]
  next held => rw [held, Option.filter_none]

theorem Ring.window?_eq_some {r : Ring} {p : Nat} {w : Window} :
    r.window? p = some w ↔ r.slots[slotOf p] = some w ∧ w.period = p := by
  rw [Ring.window?_eq_filter, Option.filter_eq_some_iff, decide_eq_true_eq]

/-- A slot holds one period. -/
theorem Ring.period_unique {r : Ring} {p q : Nat} {v w : Window} (hp : r.window? p = some v) (hq : r.window? q = some w)
    (slot : slotOf p = slotOf q) : p = q := by
  obtain ⟨inP, rfl⟩ := Ring.window?_eq_some.mp hp
  obtain ⟨inQ, rfl⟩ := Ring.window?_eq_some.mp hq
  simp only [slot, inQ, Option.some_inj] at inP
  rw [inP]

theorem Ring.window?_eq_none {r : Ring} {p : Nat} :
    r.window? p = none ↔ ∀ w, r.slots[slotOf p] = some w → w.period ≠ p := by
  simp only [Ring.window?_eq_filter, Option.filter_eq_none_iff, decide_eq_true_eq, ne_eq]

/-- Setting a slot decides about the periods of that slot and about no other. -/
theorem Ring.window?_setSlot (r : Ring) (i : Fin 96) (x : Option Window) (p : Nat) :
    (r.setSlot i x).window? p = if slotOf p = i then x.filter (fun w => decide (w.period = p)) else r.window? p := by
  rw [Ring.window?_eq_filter, Ring.window?_eq_filter, Ring.setSlot, updAt_get]
  split <;> rfl

/-- The gap flag is set when the arrival period has no window, and stays set. -/
theorem Ring.noteDisplaced_eq (r : Ring) :
    r.noteDisplaced = { r with gap := r.gap || (r.window? r.arrival).isNone } := by
  obtain ⟨slots, arrival, gap⟩ := r
  cases gap with
  | true => rfl
  | false =>
    unfold Ring.noteDisplaced
    rw [if_neg Bool.false_ne_true]
    split
    next held => rw [held]; rfl
    next held => rw [held]; rfl

/-- The gap after a slot is set: the new content decides when the slot is the arrival period's own; otherwise the window
of the arrival period, as it stood, decides. -/
theorem Ring.noteDisplaced_setSlot (r : Ring) (i : Fin 96) (x : Option Window) :
    (r.setSlot i x).noteDisplaced = { r with
      slots := r.slots.set i.val x
      gap := r.gap || if slotOf r.arrival = i then (x.filter (fun w => decide (w.period = r.arrival))).isNone
        else (r.window? r.arrival).isNone } := by
  rw [Ring.noteDisplaced_eq, Ring.window?_setSlot, apply_ite Option.isNone]
  rfl

/-- A new window put into its slot displaces the arrival period that stood there (R64). -/
theorem Ring.install_eq (r : Ring) (w : Window) :
    r.install w = { r with
      slots := r.slots.set (slotOf w.period).val (some w)
      gap := r.gap || (decide (r.arrival % 96 = (slotOf w.period).val) && decide (r.arrival ≠ w.period))
        || (r.window? r.arrival).isNone && decide (r.arrival ≠ w.period) } := by
  rw [Ring.install, Ring.noteDisplaced_setSlot, Bool.or_assoc]
  congr 2
  by_cases own : slotOf r.arrival = slotOf w.period
  · have slot : r.arrival % 96 = (slotOf w.period).val := congrArg Fin.val own
    rw [if_pos own, Option.filter_some]
    by_cases same : w.period = r.arrival
    · simp [same]
    · simp [same, slot, Ne.symm same]
  · have slot : r.arrival % 96 ≠ (slotOf w.period).val := fun e => own (Fin.ext e)
    have other : r.arrival ≠ w.period := fun e => own (congrArg slotOf e)
    simp [own, slot, other]

/-- A window taken out of its slot leaves a gap when its period is the arrival period (R65); a slot of the arrival
period that holds another period is a gap already. -/
theorem Ring.noteDisplaced_remove {r : Ring} {p : Nat} {w : Window} (held : r.window? p = some w)
    (noted : r.gap = true ∨ (r.window? r.arrival).isSome = true) :
    (r.setSlot (slotOf p) none).noteDisplaced = { r with
      slots := r.slots.set (slotOf p).val none
      gap := r.gap || decide (r.arrival = p) } := by
  rw [Ring.noteDisplaced_setSlot]
  congr 1
  rcases noted with gap | present
  · rw [gap, Bool.true_or, Bool.true_or]
  · obtain ⟨a, atArrival⟩ := Option.isSome_iff_exists.mp present
    congr 1
    by_cases own : slotOf r.arrival = slotOf p
    · rw [if_pos own, decide_eq_true (Ring.period_unique atArrival held own)]
      rfl
    · rw [if_neg own, atArrival, decide_eq_false (fun e => own (congrArg slotOf e))]
      rfl

/-! ### WINDOW_WRITE and WINDOW_DELETE (R63, R64, R65) -/

theorem windowLegal_iff (st len cap al e l : Nat) :
    windowLegal st len cap al e l = true ↔ 300 ≤ len ∧ len ≤ 7200 ∧ len % 60 = 0 ∧ st + len ≤ 4294967295
      ∧ cap ≤ 4095 ∧ al ≤ 4095 ∧ e ≤ 7 ∧ l ≤ 7 := by
  simp only [windowLegal, Bool.and_eq_true, decide_eq_true_eq, and_assoc]
  rfl

section WindowWrite

variable (s : State) (n : Window) {w : Window}

theorem State.windowWrite_illegal (illegal : ¬ windowLegal n.start n.length n.capacity n.allowance n.early n.late) :
    s.windowWrite n = refuse .badRecord s := by
  simp [State.windowWrite, illegal]

variable (legal : windowLegal n.start n.length n.capacity n.allowance n.early n.late)

include legal

theorem State.windowWrite_same (held : s.ring.slots[slotOf n.period] = some w) (same : w.period = n.period) :
    s.windowWrite n = if n.capacity < w.booked ∨ n.allowance < w.used then refuse .inUse s
      else granted (s.setRing (s.ring.setSlot (slotOf n.period) (some (w.rewritten n)))) := by
  simp only [State.windowWrite, legal, held, if_pos same]
  rfl

theorem State.windowWrite_other (held : s.ring.slots[slotOf n.period] = some w) (other : w.period ≠ n.period) :
    s.windowWrite n = if 0 < w.booked then refuse .inUse s else granted (s.setRing (s.ring.install n)) := by
  simp only [State.windowWrite, legal, held, if_neg other]
  rfl

/-- A window is installed in a slot that is EMPTY or holds another period without bookings (R64). -/
theorem State.windowWrite_installs (free : s.ring.slots[slotOf n.period] = none
      ∨ ∃ w, s.ring.slots[slotOf n.period] = some w ∧ w.period ≠ n.period ∧ w.booked = 0) :
    s.windowWrite n = granted (s.setRing (s.ring.install n)) := by
  rcases free with empty | ⟨w, held, other, unbooked⟩
  · simp only [State.windowWrite, legal, empty]
    rfl
  · rw [State.windowWrite_other s n legal held other, if_neg (by omega)]

end WindowWrite

theorem State.windowDelete_absent {s : State} {p : Nat} (absent : s.ring.window? p = none) :
    s.windowDelete p = refuse .notFound s := by
  simp only [State.windowDelete, absent]

theorem State.windowDelete_held {s : State} {p : Nat} {w : Window} (held : s.ring.window? p = some w) :
    s.windowDelete p = if 0 < w.booked then refuse .inUse s
      else granted (s.setRing (s.ring.setSlot (slotOf p) none).noteDisplaced) := by
  simp only [State.windowDelete, held]

section Taken

variable {s : State} {tag n : Nat} {rest : List Request} {st : Status} {res : Results} {r : Ring} {a : Answer}

/-- An answer that replaces the ring alone (a refusal: with the ring as it was) goes out with the ring replaced. -/
theorem done_ring (kind : Nat) (effect : a = ((s.taken rest).setRing r, st, .none)) :
    done (answer tag kind a) =
      .next (State.settle (State.answeredWith rest ⟨tag, kind, st, .none⟩ { s with ring := r })) :=
  (done_answer kind effect rfl).trans rfl

/-- An answer that changes nothing goes out from the state before the request. -/
theorem done_read (kind : Nat) (effect : a = (s.taken rest, st, res)) :
    done (answer tag kind a) = .next (State.settle (State.answeredWith rest ⟨tag, kind, st, res⟩ s)) :=
  (done_answer kind effect rfl).trans rfl

theorem exec_windowWrite_of_takes {p start len cap al e l : Nat}
    (h : s.takes tag (.windowWrite p start len cap al e l) rest) :
    exec .windowWrite s = done (answer tag 7 ((s.taken rest).windowWrite (newWindow p start len cap al e l))) := by
  show execWindowWrite s = _
  rw [execWindowWrite, State.takes_next h]
  rfl

theorem exec_windowDelete_of_takes (h : s.takes tag (.windowDelete n) rest) :
    exec .windowDelete s = done (answer tag 8 ((s.taken rest).windowDelete n)) := by
  show execWindowDelete s = _
  rw [execWindowDelete, State.takes_next h]
  rfl

theorem exec_windowRead_of_takes (h : s.takes tag (.windowRead n) rest) :
    exec .windowRead s = done (answer tag 9 ((s.taken rest).windowRead n)) := by
  show execWindowRead s = _
  rw [execWindowRead, State.takes_next h]
  rfl

theorem exec_blockRead_of_takes (h : s.takes tag (.blockRead n) rest) :
    exec .blockRead s = done (answer tag 13 ((s.taken rest).blockRead n)) := by
  show execBlockRead s = _
  rw [execBlockRead, State.takes_next h]
  rfl

theorem exec_visitRead_of_takes (h : s.takes tag (.visitRead n) rest) :
    exec .visitRead s = done (answer tag 25 ((s.taken rest).visitRead n)) := by
  show execVisitRead s = _
  rw [execVisitRead, State.takes_next h]
  rfl

theorem exec_identify_of_takes (h : s.takes tag .identify rest) :
    exec .identify s = done (answer tag 36 (granted (s.taken rest) (s.taken rest).identity)) := by
  show execIdentify s = _
  rw [execIdentify, State.takes_next h]
  rfl

end Taken

/-- Settles O41: by the field tests, then by what the period's slot holds; the gap flag by `Ring.install_eq` and
`Ring.noteDisplaced_remove`. -/
theorem windowWritesAndDeletes : Obligations.WindowWritesAndDeletes := by
  unfold Obligations.WindowWritesAndDeletes
  refine ⟨fun s tag p st len cap al e l rest i legal takes slot legalIs => ?_, fun s tag p rest i takes slot => ?_⟩
  · obtain rfl : i = slotOf p := Fin.ext slot
    rw [← windowLegal_iff] at legalIs
    rw [exec_windowWrite_of_takes takes, legalIs]
    refine ⟨fun illegal => ?_, fun legal => ⟨fun w held same => ?_, fun w held other booked => ?_, fun free => ?_⟩⟩
    · exact done_ring 7 (State.windowWrite_illegal _ (newWindow p st len cap al e l) illegal)
    · have written := State.windowWrite_same (s.taken rest) (newWindow p st len cap al e l) legal held same
      refine ⟨fun below => ?_, fun booked used => ?_⟩
      · exact done_ring 7 (written.trans (if_pos below))
      · exact done_ring 7 (written.trans (if_neg (not_or.mpr ⟨Nat.not_lt.mpr booked, Nat.not_lt.mpr used⟩)))
    · have written := State.windowWrite_other (s.taken rest) (newWindow p st len cap al e l) legal held other
      exact done_ring 7 (written.trans (if_pos booked))
    · have written := State.windowWrite_installs (s.taken rest) (newWindow p st len cap al e l) legal free
      rw [Ring.install_eq] at written
      exact done_ring 7 written
  · obtain rfl : i = slotOf p := Fin.ext slot
    rw [exec_windowDelete_of_takes takes]
    refine ⟨fun absent => ?_, fun w inSlot period => ?_⟩
    · exact done_ring 8 (State.windowDelete_absent (Ring.window?_eq_none.mpr absent))
    · have held : s.ring.window? p = some w := Ring.window?_eq_some.mpr ⟨inSlot, period⟩
      have deleted := State.windowDelete_held (s := s.taken rest) held
      refine ⟨fun booked => done_ring 8 (deleted.trans (if_pos booked)), fun unbooked noted => ?_⟩
      rw [if_neg (by omega)] at deleted
      exact done_ring 8 (deleted.trans (congrArg (fun r => granted ((s.taken rest).setRing r))
        (Ring.noteDisplaced_remove held noted)))

/-! ### WINDOW_READ, BLOCK_READ, VISIT_READ and IDENTIFY (R66, R71, R115, R25, R177) -/

/-- The derived state of a slot, read from the rows of TABLE 4-2. -/
theorem derivedState_eq {a w l : Nat} {x : WindowState}
    (row : a < w ∧ x = .future ∨ w = a ∧ x = .current ∨ a - l ≤ w ∧ w < a ∧ x = .past ∨ w < a - l ∧ x = .closed) :
    derivedState a w l = x := by
  unfold derivedState
  rcases row with ⟨after, rfl⟩ | ⟨same, rfl⟩ | ⟨within, before, rfl⟩ | ⟨beyond, rfl⟩
  · rw [if_pos after]
  · rw [if_neg (by omega), if_pos same]
  · rw [if_neg (by omega), if_neg (by omega), if_pos within]
  · rw [if_neg (by omega), if_neg (by omega), if_neg (by omega)]

theorem State.windowRead_badIndex (s : State) {n : Nat} (range : 96 ≤ n) : s.windowRead n = refuse .badIndex s :=
  dif_neg (Nat.not_lt.mpr range)

theorem State.windowRead_slot (s : State) (i : Fin 96) :
    s.windowRead i.val = granted s
      (.window s.ring.slots[i] (s.ring.slotState s.ring.slots[i]) s.ring.arrival s.ring.gap s.mgmt.clock) :=
  dif_pos i.isLt

/-- A number that names no yard block is refused with BAD_INDEX. -/
theorem State.onBlock_badIndex {n : Nat} (s : State) (go : BlockNo → Answer) (range : n = 0 ∨ 32 < n) :
    s.onBlock n go = refuse .badIndex s := by
  simp only [State.onBlock, place_none range]

theorem State.onBlock_succ (s : State) (go : BlockNo → Answer) (b : BlockNo) : s.onBlock (b.val + 1) go = go b := by
  simp only [State.onBlock, place_succ b]

/-- BLOCK_READ returns the block with the numbers of trucks that wait for it in the staging area and in lanes (R115). -/
theorem State.blockRead_block (s : State) (b : BlockNo) :
    s.blockRead (b.val + 1) = granted s (.block (s.block b)
      (s.pacer.staged.filter (fun e => e.block = b)).length
      (s.pacer.laneWait.filter (fun e => e.block = b)).length) := by
  rw [State.blockRead, State.onBlock_succ, List.countP_eq_length_filter, List.countP_eq_length_filter]
  rfl

/-- A record in use that alone carries a number is the one found by it. -/
theorem State.findVisit_unique {s : State} {n : Nat} {r : RecNo} (number : (s.visit r).number = n)
    (inUse : (s.visit r).state ≠ .free)
    (unique : ∀ i : RecNo, (s.visit i).number = n → (s.visit i).state ≠ .free → i = r) :
    s.findVisit n = some r := by
  cases found : s.findVisit n with
  | none => exact absurd (State.findVisit_none.mp found r number) inUse
  | some i =>
    obtain ⟨itsNumber, itsUse⟩ := State.findVisit_some found
    rw [unique i itsNumber itsUse]

theorem State.visitRead_notFound {s : State} {n : Nat} (nonzero : n ≠ 0) (absent : s.findVisit n = none) :
    s.visitRead n = refuse .notFound s := by
  simp only [State.visitRead, if_neg nonzero, absent]

theorem State.visitRead_found {s : State} {n : Nat} {r : RecNo} (nonzero : n ≠ 0) (found : s.findVisit n = some r) :
    s.visitRead n = granted s (.visit (s.visit r) (s.pendingOf n)) := by
  simp only [State.visitRead, if_neg nonzero, found]

theorem State.pendingOf_none {s : State} {n : Nat} :
    s.pendingOf n = none ↔ ∀ y ∈ s.engine.pendings, y.visit ≠ n := by
  simp [State.pendingOf]

theorem State.pendingOf_some {s : State} {n : Nat} {d : Direction} (h : s.pendingOf n = some d) :
    ∃ y ∈ s.engine.pendings, y.visit = n ∧ y.direction = d := by
  obtain ⟨y, found, direction⟩ := Option.map_eq_some_iff.mp h
  exact ⟨y, List.mem_of_find?_eq_some found, by simpa using List.find?_some found, direction⟩

/-- Settles O43: each read answers from the state as it stands; VISIT_READ names the direction that
`State.pendingOf` finds. -/
theorem readsAnswerWithWhatStands : Obligations.ReadsAnswerWithWhatStands := by
  unfold Obligations.ReadsAnswerWithWhatStands
  refine fun s tag n rest => ⟨fun takes => ?_, fun takes => ?_, fun takes => ?_, fun takes => ?_⟩
  · rw [exec_windowRead_of_takes takes]
    refine ⟨fun range => done_read 9 (State.windowRead_badIndex _ range), ?_⟩
    rintro i rfl
    have read := (s.taken rest).windowRead_slot i
    refine ⟨fun empty => ?_, fun w x held row => ?_⟩
    · rw [show (s.taken rest).ring.slots[i] = none from empty] at read
      exact done_read 9 read
    · rw [show (s.taken rest).ring.slots[i] = some w from held, Ring.slotState,
        show derivedState (s.taken rest).ring.arrival w.period w.late = x from derivedState_eq row] at read
      exact done_read 9 read
  · rw [exec_blockRead_of_takes takes]
    refine ⟨fun range => done_read 13 (State.onBlock_badIndex _ _ range), ?_⟩
    rintro b rfl
    exact done_read 13 ((s.taken rest).blockRead_block b)
  · rw [exec_visitRead_of_takes takes]
    refine ⟨fun zero => ?_, fun nonzero absent => ?_, fun r nonzero number inUse unique => ?_⟩
    · exact done_read 25 (if_pos zero)
    · exact done_read 25 (State.visitRead_notFound nonzero (State.findVisit_none.mpr absent))
    · have found : (s.taken rest).findVisit n = some r := State.findVisit_unique number inUse unique
      exact ⟨s.pendingOf n, done_read 25 (State.visitRead_found nonzero found), State.pendingOf_none,
        fun d => State.pendingOf_some⟩
  · exact (exec_identify_of_takes takes).trans (done_read 36 rfl)

end Sys2Proof.Machine
end

section
/-! Proofs: the keys of watch entries and what they are compared with, and the seal verdict, the damage verdict and the
outcome, each read from its table. -/

namespace Sys2Proof.Machine

open Sys2Proof

/-! ### When a watch key equals a value (R98) -/

/-- Two texts begin with the same j characters exactly when no place below j tells them apart. -/
theorem take_eq_take_iff_getElem? {x k : Text} {j : Nat} :
    x.take j = k.take j ↔ ∀ i, i < j → x[i]? = k[i]? := by
  rw [List.ext_getElem?_iff]
  refine ⟨fun same i below => ?_, fun same i => ?_⟩
  · simpa [List.getElem?_take, below] using same i
  · by_cases below : i < j
    · simp [below, same i below]
    · simp [below]

theorem textMatches_iff (key : Text) (len : Nat) (value : Text) :
    textMatches key len value = true ↔
      if len = 11 then value = key
      else min len key.length ≤ value.length ∧ ∀ i, i < min len key.length → value[i]? = key[i]? := by
  unfold textMatches
  split
  · exact beq_iff_eq
  · rw [Bool.and_eq_true, decide_eq_true_iff, beq_iff_eq, take_eq_take_iff_getElem?]

/-- Dropping the m lowest bits leaves two references equal exactly when every bit from m on agrees. -/
theorem referenceMatches_iff (key m value : Nat) :
    referenceMatches key m value = true ↔ ∀ i, m ≤ i → key.testBit i = value.testBit i := by
  rw [referenceMatches, beq_iff_eq]
  refine ⟨fun same i above => ?_, fun agree => Nat.eq_of_testBit_eq fun i => ?_⟩
  · obtain ⟨j, rfl⟩ := Nat.exists_eq_add_of_le' above
    rw [← Nat.testBit_div_two_pow, ← Nat.testBit_div_two_pow, same]
  · rw [Nat.testBit_div_two_pow, Nat.testBit_div_two_pow]
    exact agree _ (Nat.le_add_left m i)

/-! ### The values a key kind compares (R96, R103) -/

theorem Visit.mem_watchValues_plate {v : Visit} {x : WatchValue} :
    x ∈ v.watchValues .plate ↔ ∃ p, v.plate = some p ∧ x = .text p.text := by
  simp [Visit.watchValues, eq_comm]

theorem Visit.mem_watchValues_driver {v : Visit} {x : WatchValue} :
    x ∈ v.watchValues .driver ↔ ∃ t, v.credential = some t ∧ x = .text t := by
  simp [Visit.watchValues, eq_comm]

theorem Visit.mem_watchValues_booking {v : Visit} {x : WatchValue} :
    x ∈ v.watchValues .booking ↔ ∃ n, v.reference = some n ∧ x = .reference n := by
  simp [Visit.watchValues, eq_comm]

/-- The containers of both positions are compared. -/
theorem Visit.mem_watchValues_container {v : Visit} {x : WatchValue} :
    x ∈ v.watchValues .container ↔
      ∃ c, (v.pos1.container = some c ∨ v.pos2.container = some c) ∧ x = .text c.number := by
  simp [Visit.watchValues, or_and_right, exists_or, eq_comm]

/-- The entries of both seal lists are compared. -/
theorem Visit.mem_watchValues_seal {v : Visit} {x : WatchValue} :
    x ∈ v.watchValues .seal ↔ ∃ e, (e ∈ v.pos1.seals ∨ e ∈ v.pos2.seals) ∧ x = .text e.text := by
  simp [Visit.watchValues, or_and_right, exists_or, eq_comm]

/-! ### When an entry hits (R99) -/

theorem WatchEntry.hits_iff (e : WatchEntry) (i : Nat) (values : List WatchValue) (v : Visit) :
    e.hits i values v = true ↔
      e.valid = true ∧ (∃ x ∈ values, e.key.equals x = true) ∧ (∀ p, e.predecessor = some p → p ∈ v.hitSet)
        ∧ i ∉ v.hitSet := by
  cases named : e.predecessor with
  | none => simp [WatchEntry.hits, named, and_assoc]
  | some p => simp [WatchEntry.hits, named, and_assoc]

/-- Settles O30: text keys by the characters compared, reference keys by their bits, and the values and the hit test
each by what belongs to them. -/
theorem watchKeysCompare : Obligations.WatchKeysCompare := by
  unfold Obligations.WatchKeysCompare
  exact ⟨textMatches_iff, referenceMatches_iff,
    fun _ _ => ⟨Visit.mem_watchValues_plate, Visit.mem_watchValues_driver, Visit.mem_watchValues_booking,
      Visit.mem_watchValues_container, Visit.mem_watchValues_seal⟩,
    WatchEntry.hits_iff⟩

/-! ### The rows of TABLE 6-1 (R93) -/

theorem judgeSeals_tamper {q : List SealEntry} {line : Option BookingLine} (tampered : ∃ e ∈ q, e.tamper = true) :
    judgeSeals q line = .tamper :=
  if_pos (List.any_eq_true.mpr tampered)

section Untampered

variable {q : List SealEntry} {l : BookingLine} (untampered : ∀ e ∈ q, e.tamper = false)
include untampered

theorem judgeSeals_unchecked : judgeSeals q none = .unchecked :=
  if_neg (by simpa using untampered)

/-- With a paired line, the verdict turns on whether every booked seal was read and whether every seal read was booked. -/
theorem judgeSeals_line : judgeSeals q (some l) =
    if ∀ t ∈ l.seals, ∃ e ∈ q, e.text = t then
      if ∀ e ∈ q, e.text ∈ l.seals then .isMatch else .extra
    else if q = [] then .missing else .mismatch := by
  have noTamper : ¬ q.any SealEntry.tamper = true := by simpa using untampered
  rw [judgeSeals, if_neg noTamper]
  simp [List.all_eq_true]

theorem judgeSeals_isMatch (booked : ∀ t ∈ l.seals, ∃ e ∈ q, e.text = t) (known : ∀ e ∈ q, e.text ∈ l.seals) :
    judgeSeals q (some l) = .isMatch := by
  rw [judgeSeals_line untampered, if_pos booked, if_pos known]

theorem judgeSeals_extra (booked : ∀ t ∈ l.seals, ∃ e ∈ q, e.text = t) (other : ∃ e ∈ q, e.text ∉ l.seals) :
    judgeSeals q (some l) = .extra := by
  obtain ⟨e, read, unknown⟩ := other
  rw [judgeSeals_line untampered, if_pos booked, if_neg fun known => unknown (known e read)]

/-- A booked seal that was not read gives MISSING when none was read and MISMATCH otherwise. -/
theorem judgeSeals_short (missed : ∃ t ∈ l.seals, ∀ e ∈ q, e.text ≠ t) :
    judgeSeals q (some l) = if q = [] then .missing else .mismatch := by
  obtain ⟨t, named, unread⟩ := missed
  have short : ¬ ∀ t ∈ l.seals, ∃ e ∈ q, e.text = t := fun booked => by
    obtain ⟨e, read, same⟩ := booked t named
    exact unread e read same
  rw [judgeSeals_line untampered, if_neg short]

end Untampered

/-! ### The damage score and the rows of TABLE 6-3 (R94, R95) -/

/-- The six panels in panel order. -/
def panelOrder : List Panel := [.front, .rear, .left, .right, .roof, .doors]

theorem mem_panelOrder (k : Panel) : k ∈ panelOrder := by
  cases k <;> decide

theorem presentPanels_eq (p : PerPanel (Option Nat)) (w : PerPanel Nat) :
    presentPanels p w = panelOrder.filterMap (fun k => (p.get k).map (fun n => (n, w.get k))) := rfl

theorem mem_presentPanels {p : PerPanel (Option Nat)} {w : PerPanel Nat} {x : Nat × Nat} :
    x ∈ presentPanels p w ↔ ∃ k, p.get k = some x.1 ∧ w.get k = x.2 := by
  obtain ⟨n, m⟩ := x
  simp [presentPanels_eq, mem_panelOrder]

theorem presentPanels_isEmpty {p : PerPanel (Option Nat)} {w : PerPanel Nat} :
    (presentPanels p w).isEmpty = true ↔ ∀ k, p.get k = none := by
  simp [presentPanels_eq, mem_panelOrder]

theorem presentPanels_any {p : PerPanel (Option Nat)} {w : PerPanel Nat} {stop : Nat} :
    (presentPanels p w).any (fun x => decide (stop ≤ x.1)) = true ↔ ∃ k n, p.get k = some n ∧ stop ≤ n := by
  rw [List.any_eq_true]
  refine ⟨fun ⟨x, held, severe⟩ => ?_, fun ⟨k, n, kept, severe⟩ => ?_⟩
  · obtain ⟨k, kept, -⟩ := mem_presentPanels.mp held
    exact ⟨k, x.1, kept, of_decide_eq_true severe⟩
  · exact ⟨(n, w.get k), mem_presentPanels.mpr ⟨k, kept, rfl⟩, decide_eq_true severe⟩

/-- An absent panel adds nothing, so the sum over the panels present is the sum over all with 0 for the absent. -/
theorem sum_present (p : PerPanel (Option Nat)) (w : PerPanel Nat) (ks : List Panel) :
    ((ks.filterMap (fun k => (p.get k).map (fun n => (n, w.get k)))).map (fun x => x.1 * x.2)).sum
      = (ks.map (fun k => (p.get k).getD 0 * w.get k)).sum := by
  induction ks with
  | nil => rfl
  | cons k ks ih =>
    cases kept : p.get k with
    | none => simpa [kept] using ih
    | some n => simpa [kept] using ih

theorem damageScore_eq (p : PerPanel (Option Nat)) (w : PerPanel Nat) :
    damageScore p w = p.front.getD 0 * w.front + p.rear.getD 0 * w.rear + p.left.getD 0 * w.left
      + p.right.getD 0 * w.right + p.roof.getD 0 * w.roof + p.doors.getD 0 * w.doors := by
  rw [damageScore, presentPanels_eq, sum_present]
  simp [panelOrder, PerPanel.get, Nat.add_assoc]

theorem judgeDamage_unscanned {p : PerPanel (Option Nat)} {q : Params} (absent : ∀ k, p.get k = none) :
    judgeDamage p q = (none, .unscanned) :=
  if_pos (presentPanels_isEmpty.mpr absent)

section Scanned

variable {p : PerPanel (Option Nat)} {q : Params} (scanned : ∃ k, p.get k ≠ none)
include scanned

/-- With a panel present the score is written, and the verdict is that of the first later row that holds. -/
theorem judgeDamage_scanned : judgeDamage p q = (some (damageScore p q.weights),
    if q.surveyThreshold ≤ damageScore p q.weights
        ∨ (presentPanels p q.weights).any (fun x => decide (q.stopSeverity ≤ x.1)) then .survey
    else if q.noteThreshold ≤ damageScore p q.weights then .note
    else .clean) := by
  obtain ⟨k, kept⟩ := scanned
  have notEmpty : ¬ (presentPanels p q.weights).isEmpty = true := fun empty =>
    kept (presentPanels_isEmpty.mp empty k)
  simp only [judgeDamage, if_neg notEmpty]
  split_ifs <;> rfl

theorem judgeDamage_score : (judgeDamage p q).1 = some (damageScore p q.weights) := by
  rw [judgeDamage_scanned scanned]

theorem judgeDamage_survey (survey : q.surveyThreshold ≤ damageScore p q.weights
    ∨ ∃ k n, p.get k = some n ∧ q.stopSeverity ≤ n) : (judgeDamage p q).2 = .survey := by
  rw [judgeDamage_scanned scanned]
  exact if_pos (survey.imp_right presentPanels_any.mpr)

/-- Below the survey threshold and with every severity below the stop severity, the note threshold decides. -/
theorem judgeDamage_noSurvey (low : damageScore p q.weights < q.surveyThreshold)
    (mild : ∀ k n, p.get k = some n → n < q.stopSeverity) :
    (judgeDamage p q).2 = if q.noteThreshold ≤ damageScore p q.weights then .note else .clean := by
  rw [judgeDamage_scanned scanned]
  refine if_neg ?_
  rintro (high | severe)
  · exact Nat.not_le.mpr low high
  · obtain ⟨k, n, kept, reaches⟩ := presentPanels_any.mp severe
    exact Nat.not_le.mpr (mild k n kept) reaches

end Scanned

/-! ### The groups of TABLE 6-9 (R105) -/

theorem Visit.anySeal_iff {v : Visit} {x : SealVerdict} :
    v.anySeal x = true ↔ v.pos1.sealVerdict = some x ∨ v.pos2.sealVerdict = some x := by
  simp [Visit.anySeal]

theorem Visit.anyDamage_iff {v : Visit} {x : DamageVerdict} :
    v.anyDamage x = true ↔ v.pos1.damageVerdict = some x ∨ v.pos2.damageVerdict = some x := by
  simp [Visit.anyDamage]

theorem Visit.toInspect_iff {v : Visit} :
    v.toInspect = true ↔ v.strongest = some .hold ∨ v.strongest = some .stopNow ∨ v.verdict = some .lineHold
      ∨ v.anySeal .tamper = true ∨ v.anySeal .mismatch = true ∨ (v.anySeal .missing = true ∧ v.marks.gap = false)
      ∨ v.anyDamage .survey = true := by
  simp [Visit.toInspect, or_assoc]

theorem Visit.inTrouble_iff {v : Visit} {namesPlate : Bool} :
    v.inTrouble namesPlate = true ↔ v.marks.overflow = true ∨ v.marks.conflict = true
      ∨ (v.marks.plateConflict = true ∧ namesPlate = true) ∨ v.verdict = some .expired
      ∨ v.verdict = some .alreadyUsed ∨ v.verdict = some .plateMismatch ∨ v.verdict = some .containerMismatch
      ∨ (v.marks.gap = true ∧ (v.anySeal .missing = true ∨ v.anyDamage .unscanned = true)) := by
  simp [Visit.inTrouble, or_assoc]

theorem Visit.toTurnAway_iff {v : Visit} :
    v.toTurnAway = true ↔
      v.verdict = some .tooEarly ∨ v.verdict = some .cancelled ∨ v.verdict = some .walkInRefused := by
  simp [Visit.toTurnAway, or_assoc]

/-- The outcome is that of the first group that holds, and ADMIT when none does. -/
theorem Visit.decidedOutcome_eq {v : Visit} {namesPlate : Bool} :
    (v.toInspect = true → v.decidedOutcome namesPlate = .inspection)
      ∧ (¬ v.toInspect = true → v.inTrouble namesPlate = true → v.decidedOutcome namesPlate = .trouble)
      ∧ (¬ v.toInspect = true → ¬ v.inTrouble namesPlate = true → v.toTurnAway = true →
          v.decidedOutcome namesPlate = .turnedAway)
      ∧ (¬ v.toInspect = true → ¬ v.inTrouble namesPlate = true → ¬ v.toTurnAway = true →
          v.decidedOutcome namesPlate = .admitted) := by
  unfold Visit.decidedOutcome
  refine ⟨fun one => if_pos one, fun one two => ?_, fun one two three => ?_, fun one two three => ?_⟩
  · rw [if_neg one, if_pos two]
  · rw [if_neg one, if_neg two, if_pos three]
  · rw [if_neg one, if_neg two, if_neg three]

/-- Settles O37: each judgement read from the row equations of its table, in the table's order. -/
theorem judgementsFollowTheirTables : Obligations.JudgementsFollowTheirTables := by
  unfold Obligations.JudgementsFollowTheirTables
  refine ⟨?_, ?_, ?_⟩
  · rintro q line x rfl
    refine ⟨judgeSeals_tamper, fun untampered => ⟨?_, ?_⟩⟩
    · rintro rfl
      exact judgeSeals_unchecked untampered
    · rintro l rfl
      refine ⟨judgeSeals_isMatch untampered, judgeSeals_extra untampered, fun unread named => ?_, fun read missed => ?_⟩
      · obtain ⟨t, booked⟩ := List.exists_mem_of_ne_nil _ named
        rw [judgeSeals_short untampered ⟨t, booked, by simp [unread]⟩, if_pos unread]
      · rw [judgeSeals_short untampered missed, if_neg read]
  · rintro d q score x rfl scoreIs
    rw [← damageScore_eq] at scoreIs
    subst scoreIs
    refine ⟨judgeDamage_unscanned, fun scanned => ⟨judgeDamage_score scanned, judgeDamage_survey scanned, ?_⟩⟩
    rintro ⟨low, mild⟩
    rw [judgeDamage_noSurvey scanned low mild]
    exact ⟨fun note => if_pos note, fun clean => if_neg (Nat.not_le.mpr clean)⟩
  · rintro v namesPlate o rfl
    simp only [← Visit.anySeal_iff, ← Visit.anyDamage_iff, ← Visit.toInspect_iff, ← Visit.inTrouble_iff,
      ← Visit.toTurnAway_iff]
    exact Visit.decidedOutcome_eq

end Sys2Proof.Machine
end

section
/-! Proofs: what keeps a yard block and the window ring sound, and what leaves both as they are. -/

namespace Sys2Proof.Machine

open Sys2Proof

/-! ### A yard block changed (R110 to R123) -/

/-- The field tests of BLOCK_WRITE and BLOCK_TUNE (R112, test 2). -/
theorem BlockParams.legal_iff {p : BlockParams} : p.legal = true ↔
    p.pdr ≤ 16383 ∧ p.mdr ≤ p.idr ∧ p.idr ≤ p.pdr ∧ p.ais ≤ 4095 ∧ p.df ≤ 255 ∧ p.mrl ≤ 255
      ∧ 1 ≤ p.burst ∧ p.burst ≤ 15 ∧ p.idleReset ≤ 65535 := by
  simp only [BlockParams.legal, Bool.and_eq_true, decide_eq_true_eq]
  omega

/-- The bounds of a written block (R110, R111). -/
def YardBlock.InBounds (b : YardBlock) : Prop :=
  b.params.mdr ≤ b.adr ∧ b.adr ≤ b.params.pdr ∧ b.params.mdr ≤ b.params.idr ∧ b.params.idr ≤ b.params.pdr
    ∧ b.params.pdr ≤ 16383 ∧ b.credit ≤ b.params.burst * 57600 ∧ b.params.burst ≤ 15

namespace YardBlock

variable {b c : YardBlock} {p : BlockParams}

theorem sound_iff_inBounds (written : b.written = true) : b.Sound ↔ b.InBounds := by
  simp [Sound, InBounds, written]

/-- An unwritten block is DISABLED (R110). -/
theorem Sound.written_of_active (sound : b.Sound) (active : b.active = true) : b.written = true := by
  cases written : b.written with
  | true => rfl
  | false =>
    rw [sound.2 written] at active
    cases active

/-- A change of a written block is judged by its bounds. -/
theorem Sound.update (sound : b.Sound) (written : b.written = true) (same : c.written = b.written)
    (bounds : b.InBounds → c.InBounds) : c.Sound :=
  (sound_iff_inBounds (same.trans written)).mpr (bounds ((sound_iff_inBounds written).mp sound))

theorem fresh_sound (legal : p.legal = true) : (fresh p).Sound := by
  obtain ⟨pdr, mdr, idr, -, -, -, -, burst, -⟩ := BlockParams.legal_iff.mp legal
  exact (sound_iff_inBounds rfl).mpr ⟨mdr, idr, mdr, idr, pdr, Nat.zero_le _, burst⟩

theorem tuned_inBounds (legal : p.legal = true) : (b.tuned p).InBounds := by
  obtain ⟨pdr, mdr, idr, -, -, -, -, burst, -⟩ := BlockParams.legal_iff.mp legal
  exact ⟨le_max_right _ _, max_le (min_le_right _ _) (mdr.trans idr), mdr, idr, pdr, min_le_right _ _, burst⟩

theorem decreased_le : b.decreased ≤ b.adr := Nat.sub_le _ _

section InBounds

variable (bounds : b.InBounds)
include bounds

/-- A new ADR is floored at MDR, and within PDR before that. -/
theorem InBounds.withAdr {n : Nat} (low : b.params.mdr ≤ n) (high : n ≤ b.params.pdr) :
    ({ b with adr := n } : YardBlock).InBounds := by
  obtain ⟨-, -, mdr, idr, pdr, credit, burst⟩ := bounds
  exact ⟨low, high, mdr, idr, pdr, credit, burst⟩

theorem InBounds.withCredit {n : Nat} (within : n ≤ b.params.burst * 57600) :
    ({ b with credit := n } : YardBlock).InBounds := by
  obtain ⟨low, high, mdr, idr, pdr, -, burst⟩ := bounds
  exact ⟨low, high, mdr, idr, pdr, within, burst⟩

theorem InBounds.mdr_le_pdr : b.params.mdr ≤ b.params.pdr := by
  obtain ⟨-, -, mdr, idr, -⟩ := bounds
  exact mdr.trans idr

theorem InBounds.feedback (ci ni : Bool) (er : Option Nat) : (b.feedback ci ni er).InBounds := by
  refine bounds.withAdr (le_max_right _ _) (max_le ?_ bounds.mdr_le_pdr)
  cases er with
  | none => exact min_le_right _ _
  | some e => exact (min_le_left _ _).trans (min_le_right _ _)

theorem InBounds.debited : b.debited.InBounds := by
  obtain ⟨-, -, -, -, -, credit, -⟩ := id bounds
  exact bounds.withCredit ((Nat.sub_le _ _).trans credit)

theorem InBounds.missed : b.missed.InBounds := by
  obtain ⟨-, adr, -⟩ := id bounds
  exact bounds.withAdr (le_max_right _ _) (max_le (decreased_le.trans adr) bounds.mdr_le_pdr)

theorem InBounds.accrued : b.accrued.InBounds := bounds.withCredit (min_le_right _ _)

theorem InBounds.idleExpired : b.idleExpired.InBounds := by
  obtain ⟨low, high, mdr, -⟩ := id bounds
  exact bounds.withAdr (le_min low mdr) ((min_le_left _ _).trans high)

theorem InBounds.idleStep : b.idleStep.InBounds := by
  unfold YardBlock.idleStep
  split
  · exact bounds
  · split
    · exact bounds.idleExpired
    · exact bounds

theorem InBounds.rewarmed : b.rewarmed.InBounds := by
  obtain ⟨-, -, mdr, idr, pdr, -, burst⟩ := bounds
  exact ⟨mdr, idr, mdr, idr, pdr, Nat.zero_le _, burst⟩

end InBounds

@[simp] theorem debited_written : b.debited.written = b.written := by rw [debited]

@[simp] theorem missed_written : b.missed.written = b.written := by rw [missed]

@[simp] theorem idleStep_written : b.idleStep.written = b.written := by
  unfold idleStep
  split
  · rfl
  · split <;> rfl

theorem Sound.rewarmed (sound : b.Sound) : b.rewarmed.Sound := by
  cases written : b.written with
  | true => exact sound.update written rfl InBounds.rewarmed
  | false =>
    rw [sound.2 written]
    exact ⟨nofun, fun _ => rfl⟩

end YardBlock

/-! ### The ring changed (R61 to R73) -/

/-- A window stands in the slot of its period, within its counts (R61, R62, R73). -/
def Window.FitsSlot (w : Window) (i : Fin 96) : Prop :=
  w.period % 96 = i.val ∧ w.period ≤ max32 ∧ w.booked ≤ w.capacity ∧ w.used ≤ w.allowance

namespace Ring

variable {r : Ring} {p t : Nat} {w : Window} {i : Fin 96}

theorem Sound.fits (sound : r.Sound) (held : r.window? p = some w) : w.FitsSlot (slotOf p) := by
  obtain ⟨-, slots, -⟩ := sound
  obtain ⟨inSlot, -⟩ := window?_eq_some.mp held
  exact slots _ _ inSlot

/-- Every slot holds a window that fits it or none. -/
def SlotsFit (r : Ring) : Prop := ∀ (i : Fin 96) (w : Window), r.slots[i] = some w → w.FitsSlot i

theorem SlotsFit.setSlot (fit : r.SlotsFit) {x : Option Window} (new : ∀ w, x = some w → w.FitsSlot i) :
    (r.setSlot i x).SlotsFit := by
  intro j w held
  rw [Ring.setSlot, updAt_get] at held
  split at held
  · next same => exact same ▸ new w held
  · exact fit j w held

/-- Whatever is in the slots, the gap is noted (R64, R65). -/
theorem SlotsFit.noteDisplaced_sound (fit : r.SlotsFit) (arrival : r.arrival ≤ max32) : r.noteDisplaced.Sound := by
  rw [noteDisplaced_eq]
  refine ⟨arrival, fit, fun noGap => ?_⟩
  obtain ⟨-, present⟩ := Bool.or_eq_false_iff.mp noGap
  exact Option.isNone_eq_false_iff.mp present

/-- A window of the ring replaced by one of the same period that fits. -/
theorem Sound.replace (sound : r.Sound) (held : r.window? p = some w) {v : Window} (period : v.period = w.period)
    (fits : w.FitsSlot (slotOf p) → v.FitsSlot (slotOf p)) : (r.setSlot (slotOf p) (some v)).Sound := by
  obtain ⟨arrival, slots, present⟩ := id sound
  refine ⟨arrival, SlotsFit.setSlot slots ?_, fun noGap => ?_⟩
  · rintro _ ⟨⟩
    exact fits (sound.fits held)
  · show ((r.setSlot (slotOf p) (some v)).window? r.arrival).isSome = true
    rw [window?_setSlot]
    split
    · next own =>
      obtain ⟨a, atArrival⟩ := Option.isSome_iff_exists.mp (present noGap)
      have same : p = r.arrival := (period_unique atArrival held own).symm
      have itsPeriod : w.period = p := (window?_eq_some.mp held).2
      simp [period, itsPeriod, same]
    · exact present noGap

/-- A window changed in its counts stays sound when its counts stay within their bounds. -/
theorem Sound.modWindow (sound : r.Sound) {f : Window → Window} (period : ∀ w, (f w).period = w.period)
    (counts : ∀ w, r.window? p = some w → w.booked ≤ w.capacity → w.used ≤ w.allowance →
      (f w).booked ≤ (f w).capacity ∧ (f w).used ≤ (f w).allowance) : (r.modWindow p f).Sound := by
  unfold Ring.modWindow
  split
  · next w held =>
    refine sound.replace held (period w) fun ⟨slot, range, booked, used⟩ => ?_
    obtain ⟨newBooked, newUsed⟩ := counts w held booked used
    exact ⟨(period w).symm ▸ slot, (period w).symm ▸ range, newBooked, newUsed⟩
  · exact sound

theorem Sound.dropBooked (sound : r.Sound) : (r.dropBooked p).Sound :=
  sound.modWindow (fun _ => rfl) fun _ _ booked used => ⟨(Nat.sub_le _ _).trans booked, used⟩

/-- A walk-in claim is granted below the allowance alone (R73). -/
theorem Sound.claim (sound : r.Sound) {g : Ring} (granted : r.claim = some g) : g.Sound := by
  unfold Ring.claim Ring.current? at granted
  split at granted
  · next w current =>
    split at granted
    · next below =>
      cases granted
      refine sound.modWindow (fun _ => rfl) fun v held booked _ => ⟨booked, ?_⟩
      split at current
      · cases current
      · rw [held] at current
        cases current
        exact below
    · cases granted
  · cases granted

theorem Sound.install (sound : r.Sound) (fits : w.FitsSlot (slotOf w.period)) : (r.install w).Sound := by
  obtain ⟨arrival, slots, -⟩ := sound
  refine SlotsFit.noteDisplaced_sound (SlotsFit.setSlot slots ?_) arrival
  rintro _ ⟨⟩
  exact fits

theorem Sound.remove (sound : r.Sound) : (r.setSlot i none).noteDisplaced.Sound := by
  obtain ⟨arrival, slots, -⟩ := sound
  exact SlotsFit.noteDisplaced_sound (SlotsFit.setSlot slots nofun) arrival

theorem clearBooked_slot (r : Ring) (i : Fin 96) :
    r.clearBooked.slots[i] = (r.slots[i]).map (fun w => { w with booked := 0 }) :=
  Vector.getElem_ofFn i.isLt

@[simp] theorem clearBooked_arrival (r : Ring) : r.clearBooked.arrival = r.arrival := by
  rw [Ring.clearBooked]

@[simp] theorem clearBooked_gap (r : Ring) : r.clearBooked.gap = r.gap := by
  rw [Ring.clearBooked]

theorem clearBooked_window? (r : Ring) (p : Nat) :
    r.clearBooked.window? p = (r.window? p).map (fun w => { w with booked := 0 }) := by
  rw [window?_eq_filter, window?_eq_filter, clearBooked_slot, Option.filter_map]
  rfl

theorem Sound.clearBooked (sound : r.Sound) : r.clearBooked.Sound := by
  obtain ⟨arrival, slots, present⟩ := sound
  refine ⟨by rwa [clearBooked_arrival], fun i w held => ?_, fun noGap => ?_⟩
  · obtain ⟨v, inSlot, rfl⟩ := Option.map_eq_some_iff.mp ((clearBooked_slot r i).symm.trans held)
    obtain ⟨own, range, -, used⟩ := slots i v inSlot
    exact ⟨own, range, Nat.zero_le _, used⟩
  · rw [clearBooked_gap] at noGap
    rw [clearBooked_arrival, clearBooked_window?, Option.isSome_map]
    exact present noGap

/-- The ring moved to an arrival period that is present, the gap flag as it may be (R68 to R70). -/
theorem Sound.arriveAt (sound : r.Sound) (present : (r.window? p).isSome = true) (gap : Bool) :
    ({ r with arrival := p, gap := gap } : Ring).Sound := by
  obtain ⟨w, held⟩ := Option.isSome_iff_exists.mp present
  obtain ⟨-, range, -⟩ := sound.fits held
  obtain ⟨-, slots, -⟩ := sound
  exact ⟨(window?_eq_some.mp held).2 ▸ range, slots, fun _ => present⟩

/-- Setting the gap flag asks nothing of the arrival period. -/
theorem Sound.withGap (sound : r.Sound) : ({ r with gap := true } : Ring).Sound := by
  obtain ⟨arrival, slots, -⟩ := sound
  exact ⟨arrival, slots, nofun⟩

theorem nextStarted_present (started : r.nextStarted t = true) : (r.window? (r.arrival + 1)).isSome = true := by
  obtain ⟨-, next⟩ := Bool.and_eq_true_iff.mp started
  split at next
  · next held => rw [held]; rfl
  · cases next

theorem Sound.advance (sound : r.Sound) : (r.advance t).Sound := by
  unfold Ring.advance
  split
  · next started => exact sound.arriveAt (nextStarted_present started) r.gap
  · split
    · exact sound.withGap
    · split
      · exact sound.withGap
      · exact sound

theorem Sound.resume (sound : r.Sound) : (r.resume t).Sound := by
  unfold Ring.resume
  split
  · next w held =>
    split
    · exact sound.arriveAt (by rw [held]; rfl) false
    · split
      · next started => exact sound.arriveAt (nextStarted_present started) false
      · exact sound
  · split
    · next started => exact sound.arriveAt (nextStarted_present started) false
    · exact sound

theorem Sound.second (sound : r.Sound) : (r.second t).Sound := by
  unfold Ring.second
  split
  · exact sound.resume
  · exact sound.advance

/-- The period that TIME_SET finds is one of a slot's (R70). -/
theorem highestContaining_held (found : r.highestContaining t = some p) :
    ∃ (i : Fin 96) (w : Window), r.slots[i] = some w ∧ w.period = p := by
  have listed : ∃ w, some w ∈ r.slots.toList ∧ w.period = p := by
    revert found
    refine List.foldlRecOn (motive := fun best => best = some p → ∃ w, some w ∈ r.slots.toList ∧ w.period = p)
      _ _ nofun ?_
    intro best earlier slot inRing found
    split at found
    · exact earlier found
    · next w =>
      split at found
      · split at found
        · exact ⟨w, inRing, Option.some_inj.mp found⟩
        · next b =>
          rcases max_choice b w.period with before | now
          · exact earlier (before ▸ found)
          · exact ⟨w, inRing, now ▸ Option.some_inj.mp found⟩
      · exact earlier found
  obtain ⟨w, inRing, period⟩ := listed
  obtain ⟨i, below, held⟩ := Vector.mem_iff_getElem.mp (Vector.mem_toList_iff.mp inRing)
  exact ⟨⟨i, below⟩, w, held, period⟩

theorem Sound.rederive (sound : r.Sound) : (r.rederive t).Sound := by
  unfold Ring.rederive
  split
  · next p found =>
    obtain ⟨i, w, held, period⟩ := highestContaining_held found
    obtain ⟨-, slots, -⟩ := id sound
    obtain ⟨own, -⟩ := slots i w held
    have slot : slotOf p = i := Fin.ext (period ▸ own)
    have present : r.window? p = some w := window?_eq_some.mpr ⟨slot ▸ held, period⟩
    exact sound.arriveAt (by rw [present]; rfl) false
  · exact sound.withGap

end Ring
end Sys2Proof.Machine
end

section
/-! Proofs: what each part of the machine does to the window ring and to the yard blocks. -/

namespace Sys2Proof.Machine

open Sys2Proof

/-! ### What leaves the ring and the blocks as they are -/

/-- The window ring and the yard blocks of a state. -/
def State.yard (s : State) : Ring × Vector YardBlock 32 := (s.ring, s.pacer.blocks)

section Updates

variable (s : State)

@[simp] theorem State.modVisit_yard (r : RecNo) (f : Visit → Visit) : (s.modVisit r f).yard = s.yard := rfl
@[simp] theorem State.modLane_yard (l : Lane) (f : LaneRecord → LaneRecord) : (s.modLane l f).yard = s.yard := rfl
@[simp] theorem State.modPoint_yard (p : Point) (f : PointState → PointState) : (s.modPoint p f).yard = s.yard := rfl
@[simp] theorem State.modBarrier_yard (l : Lane) (f : Barrier → Barrier) : (s.modBarrier l f).yard = s.yard := rfl
@[simp] theorem State.modDepartures_yard (l : Lane) (f : List Departure → List Departure) :
    (s.modDepartures l f).yard = s.yard := rfl
@[simp] theorem State.setPendings_yard (q : List PendingDirection) : (s.setPendings q).yard = s.yard := rfl
@[simp] theorem State.setRow_yard (r : RowNo) (x : RowState) : (s.setRow r x).yard = s.yard := rfl
@[simp] theorem State.setStaged_yard (q : List StagedEntry) : (s.setStaged q).yard = s.yard := rfl
@[simp] theorem State.setLaneWait_yard (q : List LaneWaitEntry) : (s.setLaneWait q).yard = s.yard := rfl
@[simp] theorem State.setContext_yard (c : Option CheckContext) : (s.setContext c).yard = s.yard := rfl
@[simp] theorem State.setStore_yard (t : TableStore) : (s.setStore t).yard = s.yard := rfl
@[simp] theorem State.placeLane_yard (x : LaneSender) : (s.placeLane x).yard = s.yard := rfl
@[simp] theorem State.count_yard (k : PartCounter) : (s.count k).yard = s.yard := rfl
@[simp] theorem State.countLane_yard (l : Lane) (k : LaneCounter) : (s.countLane l k).yard = s.yard := rfl
@[simp] theorem State.mark_yard (r : RecNo) (k : Mark) : (s.mark r k).yard = s.yard := rfl
@[simp] theorem State.setVisitState_yard (r : RecNo) (x : VisitState) : (s.setVisitState r x).yard = s.yard := rfl
@[simp] theorem State.setVerdict_yard (r : RecNo) (x : BookingVerdict) : (s.setVerdict r x).yard = s.yard := rfl
@[simp] theorem State.decideOutcome_yard (c : CheckContext) : (s.decideOutcome c).yard = s.yard := rfl
@[simp] theorem State.requestCheck_yard (a : CheckAccess) : (s.requestCheck a).yard = s.yard := rfl
@[simp] theorem State.matchAtClose_yard (r : RecNo) : (s.matchAtClose r).yard = s.yard := rfl
@[simp] theorem State.modStaged_yard (v : Nat) (f : StagedEntry → StagedEntry) :
    (s.modStaged v f).yard = s.yard := rfl

@[simp] theorem State.raise_yard (c : NoticeClass) : (s.raise c).yard = s.yard := by simp [State.yard]

@[simp] theorem State.settle_yard : s.settle.yard = s.yard := by simp [State.yard]

@[simp] theorem State.raiseLevel_yard (c : NoticeClass) (holds : Bool) : (s.raiseLevel c holds).yard = s.yard := by
  unfold State.raiseLevel
  split <;> simp

@[simp] theorem State.modNumbered_yard (n : Nat) (f : Visit → Visit) : (s.modNumbered n f).yard = s.yard := by
  unfold State.modNumbered
  split <;> rfl

/-- What the watch matcher and the lane points keep includes the ring and the blocks. -/
theorem State.yard_of_mergeKept {s t : State} (kept : t.mergeKept = s.mergeKept) : t.yard = s.yard := by
  have ring : t.ring = s.ring := congrArg MergeKept.ring kept
  have pacer : t.pacer = s.pacer := congrArg MergeKept.pacer kept
  rw [State.yard, State.yard, ring, pacer]

@[simp] theorem State.unconfirmed_yard (d : Direction) : (s.unconfirmed d).yard = s.yard :=
  State.yard_of_mergeKept (s.unconfirmed_mergeKept d)

@[simp] theorem State.headLeaves_yard (p : Point) : (s.headLeaves p).yard = s.yard :=
  State.yard_of_mergeKept (s.headLeaves_mergeKept p)

@[simp] theorem State.barrierTest_yard (l : Lane) : (s.barrierTest l).yard = s.yard :=
  State.yard_of_mergeKept (s.barrierTest_mergeKept l)

@[simp] theorem laneHandOn_yard (p : Point) (d : Direction) : (laneHandOn p d s).yard = s.yard :=
  State.yard_of_mergeKept (laneHandOn_mergeKept s p d)

@[simp] theorem State.serveLane_yard (p : Point) : (s.serveLane p).yard = s.yard :=
  State.yard_of_mergeKept (s.serveLane_mergeKept p)

@[simp] theorem State.watchCall_yard (r : RecNo) (kind : KeyKind) (value : WatchValue) :
    (s.watchCall r kind value).yard = s.yard :=
  State.yard_of_mergeKept (s.watchCall_mergeKept r kind value)

/-! ### Directions issued (R149) -/

@[simp] theorem State.enterDirection_mergeKept (v : Nat) (p : Point) (d : Direction) :
    (s.enterDirection v p d).mergeKept = s.mergeKept := by
  unfold State.enterDirection
  extract_lets s1 isEarlier s2 s3
  have two : s2.mergeKept = s.mergeKept := by
    unfold s2
    split
    · exact (State.fillQueue_mergeKept _ _).trans rfl
    · rfl
  have three : s3.mergeKept = s.mergeKept := by
    unfold s3
    split
    · exact two
    · exact two
  split
  · exact three
  · exact three

/-- A direction issued at a lane's own point changes the direction engine and what goes with it. -/
@[simp] theorem State.issueLane_mergeKept (v : Nat) (l : Lane) (d : Direction) :
    (s.issueLane v l d).mergeKept = s.mergeKept := by
  simp [State.issueLane]

@[simp] theorem State.issueLane_yard (v : Nat) (l : Lane) (d : Direction) : (s.issueLane v l d).yard = s.yard :=
  State.yard_of_mergeKept (s.issueLane_mergeKept v l d)

/-! ### Reports, rows and boards (R141, R142, R154, R174) -/

@[simp] theorem State.placeReport_yard (r : RecNo) : (s.placeReport r).yard = s.yard :=
  (State.raiseLevel_yard _ _ _).trans rfl

@[simp] theorem State.enterReporting_yard (r : RecNo) : (s.enterReporting r).yard = s.yard := by
  unfold State.enterReporting
  dsimp only
  split
  · simp
  · rfl

@[simp] theorem State.reportSent_yard : s.reportSent.yard = s.yard := by
  unfold State.reportSent
  dsimp only
  split
  · rfl
  · exact (State.placeReport_yard _ _).trans rfl

@[simp] theorem State.promoteTo_yard (row : RowNo) (r : RecNo) : (s.promoteTo row r).yard = s.yard := by
  simp [State.promoteTo]

@[simp] theorem State.promoteAll_yard : s.promoteAll.yard = s.yard :=
  State.promote_keeps (P := fun t => t.yard = s.yard) (fun _ _ kept => kept)
    (fun t row r kept => (t.promoteTo_yard row r).trans kept) _ rfl

@[simp] theorem State.releaseDone_yard (v : Nat) : (s.releaseDone v).yard = s.yard := by
  unfold State.releaseDone
  split
  · rfl
  · dsimp only
    split <;> simp

@[simp] theorem boardHandOn_yard (p : Point) (d : Direction) : (boardHandOn p d s).yard = s.yard := by
  unfold boardHandOn
  split
  · rfl
  · split
    · rfl
    · split
      · simp
      · rfl

@[simp] theorem State.serveBoard_yard (p : Point) : (s.serveBoard p).yard = s.yard :=
  State.servePoint_keeps (P := fun t => t.yard = s.yard) (fun _ _ _ kept => kept)
    (fun t d kept => (State.unconfirmed_yard _ d).trans kept) (fun _ _ _ kept => kept)
    (fun t d kept => by simp [kept]) _ rfl

@[simp] theorem State.serve_yard (p : Point) : (s.serve p).yard = s.yard := by
  unfold State.serve
  split <;> simp

@[simp] theorem handOn_yard (p : Point) (d : Direction) : (handOn p d s).yard = s.yard := by
  unfold handOn
  split <;> simp

@[simp] theorem State.issueBoard_yard (v : Nat) (p : Point) (d : Direction) : (s.issueBoard v p d).yard = s.yard := by
  rw [State.issueBoard, State.serveBoard_yard]
  exact State.yard_of_mergeKept (s.enterDirection_mergeKept v p d)

/-! ### Displays, urgents and barriers (R152 to R161) -/

@[simp] theorem State.completeDisplay_yard (p : Point) (retired : Bool) :
    (s.completeDisplay p retired).yard = s.yard := by
  have marked (t : State) (d : Direction) : (if retired then t.unconfirmed d else t).yard = t.yard := by
    split
    · simp
    · rfl
  unfold State.completeDisplay
  split
  · rfl
  · rw [State.serve_yard, marked]
    rfl
  · rw [State.serve_yard, handOn_yard, marked, State.headLeaves_yard]
    rfl

@[simp] theorem State.shown_yard (p : Point) (sequence : Nat) : (s.shown p sequence).yard = s.yard := by
  unfold State.shown
  split <;> simp

@[simp] theorem State.resendExpired_yard (p : Point) : (s.resendExpired p).yard = s.yard := by
  unfold State.resendExpired
  split
  · rfl
  · simp
  · split <;> simp

@[simp] theorem State.barrierExpired_yard (l : Lane) : (s.barrierExpired l).yard = s.yard := by
  simp [State.barrierExpired]

@[simp] theorem State.placeUrgent_yard (p : Point) (d : Direction) : (s.placeUrgent p d).1.yard = s.yard := by
  unfold State.placeUrgent
  split
  · simp
  · rfl
  · dsimp only
    split <;> rfl

/-! ### A truck passes its barrier (R136, R160, TABLE 9-3) -/

@[simp] theorem State.arriveAtLot_yard (r : RecNo) (row : RowNo) : (s.arriveAtLot r row).yard = s.yard := by
  unfold State.arriveAtLot
  dsimp only
  split <;> rfl

@[simp] theorem State.finishAtBarrier_yard (r : RecNo) (f : FinalDisposition) : (s.finishAtBarrier r f).yard = s.yard :=
  (State.enterReporting_yard _ _).trans rfl

@[simp] theorem State.becomeHeld_yard (r : RecNo) : (s.becomeHeld r).yard = s.yard := (State.raise_yard _ _).trans rfl

@[simp] theorem State.movesOn_yard (r : RecNo) : (s.movesOn r).yard = s.yard := by
  unfold State.movesOn
  split_ifs
  · simp
  · simp
  · simp
  · split <;> simp
  · simp
  · rfl

@[simp] theorem State.pass_yard (l : Lane) : (s.pass l).2.yard = s.yard := by
  unfold State.pass
  dsimp only
  split
  · rfl
  · simp

/-! ### Visits open and close, and reports are merged (R13 to R41) -/

@[simp] theorem State.openVisit_yard (l : Lane) (r : RecNo) (rest : List RecNo) :
    (s.openVisit l r rest).yard = s.yard :=
  (State.raiseLevel_yard _ _ _).trans rfl

@[simp] theorem State.closeLane_yard (l : Lane) (reason : CloseReason) : (s.closeLane l reason).1.yard = s.yard := by
  unfold State.closeLane
  split <;> rfl

@[simp] theorem State.idleExpired_yard (l : Lane) : (s.idleExpired l).yard = s.yard := by simp [State.idleExpired]

@[simp] theorem State.laneSecond_yard (l : Lane) : (s.laneSecond l).yard = s.yard := by
  unfold State.laneSecond
  split
  · rfl
  · split <;> simp

@[simp] theorem State.assemblerSecond_yard : s.assemblerSecond.yard = s.yard :=
  forEach_keeps (P := fun t => t.yard = s.yard) (fun l t kept => (t.laneSecond_yard l).trans kept) rfl

@[simp] theorem State.mergePlate_yard (r : RecNo) (t : Text) (c : Nat) : (s.mergePlate r t c).yard = s.yard := by
  unfold State.mergePlate
  dsimp only
  split <;> simp

@[simp] theorem State.mergeCredential_yard (r : RecNo) (t : Text) : (s.mergeCredential r t).yard = s.yard := by
  unfold State.mergeCredential
  split <;> simp

@[simp] theorem State.mergeBooking_yard (r : RecNo) (ref : Nat) : (s.mergeBooking r ref).yard = s.yard := by
  unfold State.mergeBooking
  split_ifs <;> simp

@[simp] theorem State.mergeContainer_yard (r : RecNo) (p : Pos) (n : Text) (size c : Nat) :
    (s.mergeContainer r p n size c).yard = s.yard := by
  unfold State.mergeContainer
  dsimp only
  split <;> simp

@[simp] theorem State.mergeSeal_yard (r : RecNo) (p : Pos) (t : Text) (tamper : Bool) :
    (s.mergeSeal r p t tamper).yard = s.yard := by
  unfold State.mergeSeal
  dsimp only
  split <;> simp

theorem State.aboveFloor_yard (c : Nat) {merge : State → State} (kept : (merge s).yard = s.yard) :
    (s.aboveFloor c merge).yard = s.yard := by
  unfold State.aboveFloor
  split
  · rfl
  · exact kept

theorem State.atPosition_yard (p : Nat) {merge : Pos → State → State} (kept : ∀ q, (merge q s).yard = s.yard) :
    (s.atPosition p merge).yard = s.yard := by
  unfold State.atPosition
  split
  · exact kept _
  · rfl

@[simp] theorem State.mergeBody_yard (r : RecNo) (b : ReportBody) : (s.mergeBody r b).yard = s.yard := by
  match b with
  | .plate t c => exact s.aboveFloor_yard c (by simp)
  | .container p n size c => exact s.aboveFloor_yard c (s.atPosition_yard p (by simp))
  | .credential t => exact s.mergeCredential_yard r t
  | .booking ref => exact s.mergeBooking_yard r ref
  | .seal p t tamper c => exact s.aboveFloor_yard c (s.atPosition_yard p (by simp))
  | .damage p k severity => exact s.atPosition_yard p (fun _ => rfl)
  | .signal _ | .shown _ | .passed => rfl

@[simp] theorem State.takeFor_yard (l : Lane) (r : RecNo) (b : ReportBody) : (s.takeFor l r b).yard = s.yard := by
  unfold State.takeFor
  dsimp only
  split
  · exact (State.mergeBody_yard _ _ _).trans rfl
  · rfl

@[simp] theorem State.mergeable_yard (l : Lane) (b : ReportBody) : (s.mergeable l b).yard = s.yard := by
  unfold State.mergeable
  split
  · rfl
  · split
    · simp
    · split <;> simp

theorem State.routeLane_yard (p : Point) {go : Lane → State → State} (kept : ∀ l t, (go l t).yard = t.yard) :
    (s.routeLane p go).yard = s.yard := by
  unfold State.routeLane
  split
  · exact (kept _ _).trans rfl
  · rfl

@[simp] theorem State.routeMergeable_yard (x : LaneReport) : (s.routeMergeable x).yard = s.yard := by
  unfold State.routeMergeable
  split
  · rfl
  · exact s.routeLane_yard _ (by simp)

@[simp] theorem State.latchAlert_yard (l : Lane) (n : Nat) : (s.latchAlert l n).yard = s.yard := by
  unfold State.latchAlert
  dsimp only
  split
  · exact (State.raise_yard _ _).trans rfl
  · rfl

@[simp] theorem State.signal_yard (l : Lane) (n : Nat) : (s.signal l n).yard = s.yard := by
  unfold State.signal
  split
  · simp
  · rfl
  · dsimp only
    split <;> rfl
  · rfl
  · dsimp only
    split <;> rfl

@[simp] theorem State.routeSignal_yard (station n : Nat) : (s.routeSignal station n).yard = s.yard := by
  unfold State.routeSignal
  split
  · rfl
  · exact s.routeLane_yard _ (by simp)

@[simp] theorem State.routeShown_yard (station sequence : Nat) : (s.routeShown station sequence).yard = s.yard := by
  unfold State.routeShown
  split
  · rfl
  · split <;> simp

@[simp] theorem State.routePassed_yard (station : Nat) : (s.routePassed station).yard = s.yard := by
  unfold State.routePassed
  split
  · rfl
  · split
    · unfold State.passed
      split <;> simp
    · rfl

@[simp] theorem State.deliverReport_yard (x : LaneReport) : (s.deliverReport x).yard = s.yard := by
  rcases Nat.lt_or_ge s.intake.queue.length 64 with room | full
  · rw [State.deliverReport_room x room]
    rfl
  · rw [State.deliverReport_full x full]
    split <;> simp [State.yard]

@[simp] theorem State.bridge_yard (p : Port) (f : Frame) : (s.bridge p f).yard = s.yard := by
  unfold State.bridge
  split <;> split <;> rfl

/-! ### Staging (R128, R129) -/

@[simp] theorem State.stageAtBay_yard (r : RecNo) : (s.stageAtBay r).yard = s.yard := by
  unfold State.stageAtBay
  dsimp only
  split <;> rfl

@[simp] theorem State.stageInRow_yard (r : RecNo) (l : Lane) (row : RowNo) : (s.stageInRow r l row).yard = s.yard := by
  simp [State.stageInRow]

@[simp] theorem State.waitInLane_yard (r : RecNo) (l : Lane) : (s.waitInLane r l).yard = s.yard := by
  unfold State.waitInLane
  dsimp only
  rw [State.issueLane_yard]
  split <;> rfl

end Updates
end Sys2Proof.Machine
end

section
/-! Proofs: every step keeps the window ring and the yard blocks sound. -/

namespace Sys2Proof.Machine

open Sys2Proof

/-! ### Keeping the ring and the blocks sound -/

/-- The ring stays sound, and so do the yard blocks, from one state to another. -/
def KeepsSound (s t : State) : Prop := (s.ring.Sound → t.ring.Sound) ∧ (s.pacer.Sound → t.pacer.Sound)

section Rules

variable {s t u : State}

theorem KeepsSound.of_yard (same : t.yard = s.yard) : KeepsSound s t := by
  obtain ⟨ring, blocks⟩ := Prod.mk.inj same
  refine ⟨fun sound => ring ▸ sound, fun sound b => ?_⟩
  rw [blocks]
  exact sound b

theorem KeepsSound.refl (s : State) : KeepsSound s s := .of_yard rfl

theorem KeepsSound.trans (first : KeepsSound s t) (next : KeepsSound t u) : KeepsSound s u :=
  ⟨next.1 ∘ first.1, next.2 ∘ first.2⟩

/-- What follows a change and leaves the ring and the blocks alone. -/
theorem KeepsSound.yard (first : KeepsSound s t) (same : u.yard = t.yard) : KeepsSound s u :=
  first.trans (.of_yard same)

theorem KeepsSound.setRing {g : Ring} (ring : s.ring.Sound → g.Sound) : KeepsSound s (s.setRing g) := ⟨ring, id⟩

theorem KeepsSound.modBlock {b : BlockNo} {f : YardBlock → YardBlock} 
    (block : (s.block b).Sound → (f (s.block b)).Sound) : KeepsSound s (s.modBlock b f) := by
  refine ⟨id, fun sound i => ?_⟩
  show ((s.modBlock b f).block i).Sound
  by_cases own : i = b
  · rw [own, State.modBlock_block_same]
    exact block (sound b)
  · rw [State.modBlock_block_other f s own]
    exact sound i

/-- An ACTIVE block changed within its bounds. -/
theorem KeepsSound.modActive {b : BlockNo} {f : YardBlock → YardBlock} (active : (s.block b).active = true)
    (same : (f (s.block b)).written = (s.block b).written)
    (bounds : (s.block b).InBounds → (f (s.block b)).InBounds) : KeepsSound s (s.modBlock b f) :=
  .modBlock fun sound => sound.update (sound.written_of_active active) same bounds

end Rules

/-! ### The pacer (R117 to R142) -/

section Pacing

variable {s : State}

theorem State.active_of_canDebit {b : BlockNo} (can : s.canDebit b = true) : (s.block b).active = true :=
  (Bool.and_eq_true_iff.mp can).1

theorem State.debit_keepsSound {b : BlockNo} (can : s.canDebit b = true) : KeepsSound s (s.debit b) := by
  have active := State.active_of_canDebit can
  have missed : KeepsSound s (s.modBlock b (fun _ => (s.block b).debited.missed)) :=
    .modActive active (by simp) fun bounds => bounds.debited.missed
  unfold State.debit
  extract_lets x t
  split
  · split
    · exact missed
    · exact missed.yard (State.raise_yard _ _)
  · exact .modActive active YardBlock.debited_written fun bounds => bounds.debited

theorem State.takeYardState_keepsSound (n : Nat) (ci ni : Bool) (er : Option Nat) :
    KeepsSound s (s.takeYardState n ci ni er) := by
  unfold State.takeYardState
  split
  · split
    · next taken =>
      obtain ⟨-, active⟩ := Bool.and_eq_true_iff.mp taken
      exact .modActive active rfl fun bounds => bounds.feedback ci ni er
    · exact .of_yard rfl
  · exact .of_yard rfl

/-- A block open to a dispatch can be debited (R126). -/
theorem State.canDebit_of_openBlock {x : Option BlockNo} {b : BlockNo} (opened : s.openBlock? x = some b) :
    s.canDebit b = true := by
  unfold State.openBlock? at opened
  split at opened
  · split at opened
    · next isOpen =>
      cases opened
      obtain ⟨able, -⟩ := Bool.and_eq_true_iff.mp isOpen
      obtain ⟨can, -⟩ := Bool.and_eq_true_iff.mp able
      exact can
    · cases opened
  · cases opened

theorem State.dispatchTo_keepsSound {r : RecNo} {b : BlockNo} (can : s.canDebit b = true) (viaAlternate : Bool)
    (loc : RequestFrom) : KeepsSound s (s.dispatchTo r b viaAlternate loc) := by
  refine (State.debit_keepsSound can).yard ?_
  unfold State.dispatchTo
  dsimp only
  split <;> simp

theorem State.dispatchRequest_keepsSound (r : RecNo) (loc : RequestFrom) :
    KeepsSound s (s.dispatchRequest r loc).1 := by
  unfold State.dispatchRequest
  split
  · next opened => exact State.dispatchTo_keepsSound (State.canDebit_of_openBlock opened) _ _
  · split
    · next opened => exact State.dispatchTo_keepsSound (State.canDebit_of_openBlock opened) _ _
    · split
      · exact .of_yard (s.stageAtBay_yard r)
      · split
        · exact .of_yard (s.stageInRow_yard r _ _)
        · exact .of_yard (s.waitInLane_yard r _)

@[simp] theorem State.releaseStaged_yard (s : State) (e : StagedEntry) (b : BlockNo) :
    (s.releaseStaged e b).yard = s.yard := by
  simp [State.releaseStaged]

theorem State.releaseLaneWaiting_keepsSound {b : BlockNo} (e : LaneWaitEntry) (can : s.canDebit b = true) :
    KeepsSound s (s.releaseLaneWaiting e b) := by
  refine (State.debit_keepsSound can).yard ?_
  unfold State.releaseLaneWaiting
  dsimp only
  split <;> simp

theorem State.releaseService_keepsSound (b : BlockNo) : KeepsSound s (s.releaseService b) :=
  State.serveLaneWait_keeps (P := KeepsSound s)
    (fun _ e kept can => kept.trans (State.releaseLaneWaiting_keepsSound e can)) _
    (State.serveStaged_keeps (P := KeepsSound s)
      (fun _ _ kept can => (kept.trans (State.debit_keepsSound can)).yard (State.releaseStaged_yard _ _ _)) _
      (.refl s))

theorem State.blockSecond_keepsSound (b : BlockNo) : KeepsSound s (s.blockSecond b) := by
  unfold State.blockSecond
  split
  · next active =>
    refine KeepsSound.trans (.modActive active ?_ fun bounds => bounds.accrued.idleStep)
      (State.releaseService_keepsSound b)
    exact YardBlock.idleStep_written
  · exact .refl s

@[simp] theorem State.waitStaged_yard (s : State) : s.waitStaged.yard = s.yard := by
  unfold State.waitStaged
  dsimp only
  split <;> simp

theorem State.serveAlternate_keepsSound (n : Nat) : KeepsSound s (s.serveAlternate n) := by
  unfold State.serveAlternate
  split
  · exact .refl s
  · split
    · split
      · exact .refl s
      · split
        · next can => exact (State.debit_keepsSound can).yard (by simp)
        · exact .refl s
    · exact .refl s

theorem State.pacerSecond_keepsSound : KeepsSound s s.pacerSecond :=
  State.stagingWork_keeps (P := KeepsSound s) (fun t kept => kept.yard t.waitStaged_yard)
    (fun _ n kept => kept.trans (State.serveAlternate_keepsSound n))
    (forEach_keeps (P := KeepsSound s) (fun b _ kept => kept.trans (State.blockSecond_keepsSound b)) (.refl s))

end Pacing

/-! ### The check unit (R73 to R108) -/

section Checking

variable {s : State}

theorem State.handOff_keepsSound (c : CheckContext) : KeepsSound s (s.handOff c) := by
  unfold State.handOff
  extract_lets b t
  have same : t.yard = s.yard := by simp [t]
  split
  · next o _ =>
    have counted : KeepsSound s (t.countLane (t.visit c.visit).lane o.counter) :=
      .of_yard ((State.countLane_yard _ _ _).trans same)
    refine counted.trans ?_
    cases o with
    | admitted => exact State.dispatchRequest_keepsSound _ _
    | turnedAway => exact .of_yard (by simp [State.handBy, State.handToEngine])
    | trouble => exact .of_yard (by simp [State.handBy, State.handToEngine])
    | inspection => exact .of_yard (by simp [State.handBy, State.handToEngine])
  · exact .of_yard same

theorem State.claimWalkIn_keepsSound (c : CheckContext) : KeepsSound s (s.claimWalkIn c) := by
  unfold State.claimWalkIn
  split
  · next g granted =>
    exact (KeepsSound.setRing fun sound => sound.claim granted).trans (State.handOff_keepsSound c)
  · exact (KeepsSound.of_yard (by simp)).trans (State.handOff_keepsSound c)

theorem State.commit_keepsSound (c : CheckContext) : KeepsSound s (s.commit c) := by
  unfold State.commit
  dsimp only
  split
  · split
    · exact .of_yard (by simp)
    · exact State.handOff_keepsSound c
  · split
    · exact State.claimWalkIn_keepsSound c
    · exact State.handOff_keepsSound c

theorem State.judge_keepsSound (c : CheckContext) : KeepsSound s (s.judge c) := by
  unfold State.judge
  dsimp only
  exact (KeepsSound.of_yard (by simp)).trans (State.commit_keepsSound _)

theorem State.holdBooking_keepsSound (c : CheckContext) (i : Nat) (b : Booking) : KeepsSound s (s.holdBooking c i b) :=
  (KeepsSound.of_yard (s.modVisit_yard _ _)).trans (State.judge_keepsSound _)

theorem State.nextCandidate_keepsSound (c : CheckContext) : KeepsSound s (s.nextCandidate c) := by
  unfold State.nextCandidate
  split
  · exact .of_yard (by simp)
  · split
    · exact .of_yard (by simp [State.searchFor])
    · exact State.judge_keepsSound c

theorem State.startCheck_keepsSound (r : RecNo) : KeepsSound s (s.startCheck r) := by
  unfold State.startCheck
  dsimp only
  split
  · exact .of_yard (by simp)
  · exact State.nextCandidate_keepsSound _

theorem State.redecideKept_keepsSound (c : CheckContext) (x : BookingVerdict) : KeepsSound s (s.redecideKept c x) :=
  (KeepsSound.of_yard (by simp)).trans (State.handOff_keepsSound c)

theorem State.redecideGivenUp_keepsSound (c : CheckContext) : KeepsSound s (s.redecideGivenUp c) := by
  unfold State.redecideGivenUp
  extract_lets reading w c1 t u
  have same : KeepsSound s u := .of_yard (by simp [u, t])
  split
  · exact same.trans (State.claimWalkIn_keepsSound c1)
  · exact same.trans (State.handOff_keepsSound c1)

theorem State.afterConfirm_keepsSound (c : CheckContext) (x : ConfirmResult) : KeepsSound s (s.afterConfirm c x) := by
  cases x with
  | confirmed => exact State.handOff_keepsSound c
  | cancelled => exact State.redecideKept_keepsSound c _
  | alreadyUsed => exact State.redecideKept_keepsSound c _
  | notFound => exact State.redecideGivenUp_keepsSound c

end Checking

/-! ### The table store (R44 to R59) -/

section Store

variable {s : State}

/-- The arrived count has no bound of its own (R51). -/
theorem State.confirmAccess_keepsSound (i tag : Nat) : KeepsSound s (s.confirmAccess i tag).1 := by
  unfold State.confirmAccess
  split
  · split
    · split
      · exact (KeepsSound.of_yard rfl).trans
          (.setRing fun sound => sound.modWindow (fun _ => rfl) fun _ _ booked used => ⟨booked, used⟩)
      · exact .refl s
      · exact .refl s
    · exact .refl s
  · exact .refl s

@[simp] theorem State.insertLine_yard (s : State) (i : Nat) (l : BookingLine) : (s.insertLine i l).1.yard = s.yard := by
  unfold State.insertLine
  split
  · rfl
  · split <;> rfl

@[simp] theorem State.insertLines_yard (s : State) (i : Nat) (b : Booking) : (s.insertLines i b).1.yard = s.yard := by
  unfold State.insertLines
  dsimp only
  split <;> simp

/-- A booking is counted against a window that has room (R44, R52, test 5). -/
theorem State.bookingWrite_keepsSound (r : RawBooking) : KeepsSound s (s.bookingWrite r).1 := by
  unfold State.bookingWrite
  split
  · exact .refl s
  · split
    · exact .refl s
    · next b _ =>
      split
      · exact .refl s
      · split
        · exact .refl s
        · next w held =>
          split
          · exact .refl s
          · next room =>
            have booked : KeepsSound s ((s.setStore (s.store.setBooking r.index b)).setRing
                (s.ring.modWindow b.period (fun w => { w with booked := w.booked + 1 }))) := by
              refine (KeepsSound.of_yard rfl).trans (.setRing fun sound =>
                Ring.Sound.modWindow sound (fun _ => rfl) fun v itsHeld _ used => ⟨?_, used⟩)
              obtain rfl : w = v := Option.some_inj.mp (held.symm.trans itsHeld)
              exact Nat.not_le.mp room
            dsimp only
            split <;> exact booked.yard (State.insertLines_yard _ _ _)

theorem State.bookingCancel_keepsSound (i : Nat) (tag : Option Nat) : KeepsSound s (s.bookingCancel i tag).1 := by
  unfold State.bookingCancel
  split
  · exact .refl s
  · exact .refl s
  · split
    · exact (KeepsSound.of_yard rfl).trans (.setRing Ring.Sound.dropBooked)
    · exact .refl s

theorem State.bookingDelete_keepsSound (i : Nat) (tag : Option Nat) : KeepsSound s (s.bookingDelete i tag).1 := by
  unfold State.bookingDelete
  split
  · exact .refl s
  · exact .refl s
  · dsimp only
    split
    · exact .of_yard rfl
    · exact (KeepsSound.of_yard rfl).trans (.setRing Ring.Sound.dropBooked)

@[simp] theorem State.bookingRead_state (s : State) (i : Nat) (tag : Option Nat) : (s.bookingRead i tag).1 = s := by
  unfold State.bookingRead
  split <;> rfl

theorem State.clearStore_keepsSound (g : Nat) : KeepsSound s (s.clearStore g) :=
  (KeepsSound.of_yard rfl).trans (.setRing Ring.Sound.clearBooked)

end Store
end Sys2Proof.Machine
end

section
/-! Proofs: no command, and so no step, breaks the window ring or a yard block. -/

namespace Sys2Proof.Machine

open Sys2Proof

/-! ### What the requests answer with (R18 to R177) -/

section Answers

variable (s : State)

theorem State.onBlock_keepsSound (n : Nat) {go : BlockNo → Answer} (kept : ∀ b, KeepsSound s (go b).1) :
    KeepsSound s (s.onBlock n go).1 := by
  unfold State.onBlock
  split
  · exact kept _
  · exact .refl s

theorem State.onLane_yard (n : Nat) {go : Lane → Answer} (kept : ∀ l, (go l).1.yard = s.yard) :
    (s.onLane n go).1.yard = s.yard := by
  unfold State.onLane
  split
  · exact kept _
  · rfl

theorem State.stationWrite_yard (i : Nat) (valid : Bool) (n p r : Nat) :
    (s.stationWrite i valid n p r).1.yard = s.yard := by
  unfold State.stationWrite
  split
  · split
    · split
      · rfl
      · split <;> rfl
    · rfl
  · rfl

theorem State.stationRead_yard (i : Nat) : (s.stationRead i).1.yard = s.yard := by
  unfold State.stationRead
  split <;> rfl

theorem State.codeWrite_yard (i n m : Nat) (endMarker : Bool) : (s.codeWrite i n m endMarker).1.yard = s.yard := by
  unfold State.codeWrite
  split
  · split
    · rfl
    · split <;> rfl
  · rfl

theorem State.codeRead_yard (i : Nat) : (s.codeRead i).1.yard = s.yard := by
  unfold State.codeRead
  split <;> rfl

theorem State.watchWrite_yard (i : Nat) (valid : Bool) (w : RawWatch) : (s.watchWrite i valid w).1.yard = s.yard := by
  unfold State.watchWrite
  split
  · split
    · split <;> rfl
    · rfl
  · rfl

theorem State.watchRead_yard (i : Nat) : (s.watchRead i).1.yard = s.yard := by
  unfold State.watchRead
  split <;> rfl

/-- A window of a 32-bit period without bookings or claims fits its slot, and so does a rewritten one that keeps its
counts within the new bounds (R63, R64). -/
theorem State.windowWrite_keepsSound {p start length capacity allowance early late : Nat} (range : p ≤ max32) :
    KeepsSound s (s.windowWrite (newWindow p start length capacity allowance early late)).1 := by
  have installs : KeepsSound s (s.setRing (s.ring.install (newWindow p start length capacity allowance early late))) :=
    .setRing fun sound => sound.install ⟨rfl, range, Nat.zero_le _, Nat.zero_le _⟩
  unfold State.windowWrite
  split
  · exact .refl s
  · split
    · exact installs
    · next w inSlot =>
      split
      · next same =>
        split
        · exact .refl s
        · next within =>
          obtain ⟨booked, used⟩ := not_or.mp within
          refine .setRing fun sound => sound.replace (Ring.window?_eq_some.mpr ⟨inSlot, same⟩) same.symm ?_
          exact fun ⟨slot, range, _, _⟩ => ⟨same ▸ slot, same ▸ range, Nat.not_lt.mp booked, Nat.not_lt.mp used⟩
      · split
        · exact .refl s
        · exact installs

theorem State.windowDelete_keepsSound (p : Nat) : KeepsSound s (s.windowDelete p).1 := by
  unfold State.windowDelete
  split
  · exact .refl s
  · split
    · exact .refl s
    · exact .setRing Ring.Sound.remove

theorem State.windowRead_yard (i : Nat) : (s.windowRead i).1.yard = s.yard := by
  unfold State.windowRead
  split <;> rfl

theorem State.blockWrite_keepsSound (n : Nat) (p : BlockParams) : KeepsSound s (s.blockWrite n p).1 := by
  refine s.onBlock_keepsSound n fun b => ?_
  split
  · next legal => exact .modBlock fun _ => YardBlock.fresh_sound legal
  · exact .refl s

theorem State.blockTune_keepsSound (n : Nat) (p : BlockParams) : KeepsSound s (s.blockTune n p).1 := by
  refine s.onBlock_keepsSound n fun b => ?_
  split
  · exact .refl s
  · next legal =>
    split
    · exact .refl s
    · next written =>
      refine .modBlock fun sound => sound.update (by simpa using written) rfl fun _ => ?_
      exact YardBlock.tuned_inBounds (by simpa using legal)

theorem State.blockDisable_keepsSound (n : Nat) : KeepsSound s (s.blockDisable n).1 := by
  refine s.onBlock_keepsSound n fun b => ?_
  split
  · next active => exact .modActive active rfl id
  · exact .refl s

theorem State.blockRead_keepsSound (n : Nat) : KeepsSound s (s.blockRead n).1 :=
  s.onBlock_keepsSound n fun _ => .refl s

theorem State.paramWrite_yard (n v : Nat) : (s.paramWrite n v).1.yard = s.yard := by
  have set : (s.setParam n v).yard = s.yard := by
    unfold State.setParam
    dsimp only
    split
    · unfold State.setMask
      dsimp only
      split <;> rfl
    · split
      · exact (State.promoteAll_yard _).trans rfl
      · rfl
  unfold State.paramWrite
  split_ifs
  · rfl
  · rfl
  · rfl
  · exact set

theorem State.paramRead_yard (n : Nat) : (s.paramRead n).1.yard = s.yard := by
  unfold State.paramRead
  split <;> rfl

theorem State.timeSet_keepsSound (v : Nat) : KeepsSound s (s.timeSet v).1 := ⟨Ring.Sound.rederive, id⟩

theorem State.laneOpen_yard (n : Nat) : (s.laneOpen n).1.yard = s.yard := by
  refine s.onLane_yard n fun l => ?_
  split <;> rfl

theorem State.laneStop_yard (n : Nat) : (s.laneStop n).1.yard = s.yard := by
  refine s.onLane_yard n fun l => ?_
  split
  · rfl
  · simp [granted]

theorem State.laneFlush_yard (n : Nat) : (s.laneFlush n).1.yard = s.yard :=
  s.onLane_yard n fun l => s.closeLane_yard l _

theorem State.visitRead_yard (n : Nat) : (s.visitRead n).1.yard = s.yard := by
  unfold State.visitRead
  split
  · rfl
  · split <;> rfl

theorem State.releaseHeld_keepsSound (r : RecNo) (b : Option BlockNo) : KeepsSound s (s.releaseHeld r b).1 := by
  cases b with
  | none => exact State.dispatchRequest_keepsSound r .bay
  | some b => exact (KeepsSound.of_yard (s.modVisit_yard r _)).trans (State.dispatchRequest_keepsSound r .bay)

theorem State.visitRelease_keepsSound (n : Nat) (b : Option Nat) : KeepsSound s (s.visitRelease n b).1 := by
  unfold State.visitRelease
  split
  · exact .refl s
  · split
    · exact .refl s
    · split
      · exact .refl s
      · split
        · exact .refl s
        · split
          · exact .refl s
          · exact s.releaseHeld_keepsSound _ _

theorem State.visitReject_yard (n : Nat) : (s.visitReject n).1.yard = s.yard := by
  unfold State.visitReject
  split
  · rfl
  · split
    · rfl
    · split
      · simp [granted, State.rejectHeld]
      · rfl

theorem State.sendUrgent_yard (p kind template : Nat) (visit block row : Option Nat) :
    (s.sendUrgent p kind template visit block row).1.yard = s.yard := by
  unfold State.sendUrgent
  split
  · rfl
  · split
    · rfl
    · exact s.placeUrgent_yard _ _

theorem State.barrierClear_yard (n : Nat) : (s.barrierClear n).1.yard = s.yard := by
  refine s.onLane_yard n fun l => ?_
  split
  · exact s.pass_yard l
  · rfl

theorem State.noticeAck_yard (classes : Nat) : (s.noticeAck classes).1.yard = s.yard := by
  show (s.acknowledge _).yard = s.yard
  unfold State.acknowledge
  simp only [State.raiseLevel_yard]
  rfl

theorem State.alertRead_yard (n : Nat) : (s.alertRead n).1.yard = s.yard := s.onLane_yard n fun _ => rfl

theorem State.countersRead_yard (clear : Bool) : (s.countersRead clear).1.yard = s.yard := by
  cases clear <;> rfl

theorem State.reportHold_yard : s.reportHold.1.yard = s.yard := by
  unfold State.reportHold
  split <;> rfl

theorem State.reportResume_yard : s.reportResume.1.yard = s.yard := by
  unfold State.reportResume
  split <;> rfl

theorem State.warm_keepsSound : KeepsSound s s.warm := by
  have ring : s.warm.ring = s.ring := by rw [State.warm]
  refine ⟨fun sound => ring ▸ sound, fun sound b => ?_⟩
  have block : s.warm.pacer.blocks[b] = s.pacer.blocks[b].rewarmed := by
    rw [State.warm]
    exact Vector.getElem_ofFn b.isLt
  rw [block]
  exact (sound b).rewarmed

end Answers

/-! ### Outcomes -/

/-- Whatever state an outcome goes on with, the ring and the blocks stay sound up to it. -/
def OutcomeKeeps (s : State) (o : Host.Outcome State Fault Refusal) : Prop := ∀ t, o = .next t → KeepsSound s t

section Outcomes

variable {s t : State} {tag kind : Nat} {m : MgmtRequest} {a : Answer}

/-- An event that does not occur. -/
theorem OutcomeKeeps.idle (s : State) : OutcomeKeeps s (.next s) := by
  rintro _ ⟨⟩
  exact .refl s

theorem OutcomeKeeps.done (kept : KeepsSound s t) : OutcomeKeeps s (done t) := by
  rintro _ ⟨⟩
  exact kept.yard t.settle_yard

theorem OutcomeKeeps.doneYard (same : t.yard = s.yard) : OutcomeKeeps s (Machine.done t) := .done (.of_yard same)

theorem State.nextRequest_yard (taken : s.nextRequest? = some (tag, m, t)) : t.yard = s.yard := by
  obtain ⟨rest, -, rfl⟩ := State.next_takes taken
  rfl

/-- A request taken and answered. -/
theorem OutcomeKeeps.answered (taken : s.nextRequest? = some (tag, m, t)) (kept : KeepsSound t a.1) :
    OutcomeKeeps s (Machine.done (answer tag kind a)) :=
  .done (((KeepsSound.of_yard (State.nextRequest_yard taken)).trans kept).yard rfl)

theorem OutcomeKeeps.answeredYard (taken : s.nextRequest? = some (tag, m, t)) (same : a.1.yard = t.yard) :
    OutcomeKeeps s (Machine.done (answer tag kind a)) := .answered taken (.of_yard same)

/-- A request taken that asks for its access. -/
theorem OutcomeKeeps.asked (taken : s.nextRequest? = some (tag, m, t)) (x : MgmtAccess) :
    OutcomeKeeps s (Machine.done (t.askStore tag kind x)) :=
  .doneYard ((show (t.askStore tag kind x).yard = t.yard from rfl).trans (State.nextRequest_yard taken))

/-- An access that completes and is answered. -/
theorem OutcomeKeeps.completed (kept : KeepsSound s a.1) :
    OutcomeKeeps s (Machine.done (State.answerAccess (Answer.released a))) := by
  have same : (State.answerAccess (Answer.released a)).yard = a.1.yard := by
    unfold State.answerAccess
    split <;> rfl
  exact .done (kept.yard same)

end Outcomes

/-! ### The commands -/

section Commands

variable (s : State)

theorem execColdReset_keeps (u : Byte) (h : Bool) : OutcomeKeeps s (execColdReset u h s) := by
  refine .done ⟨fun _ => ⟨Nat.zero_le _, fun i w held => ?_, nofun⟩, fun _ b => ?_⟩
  · rw [show (State.cold u h).ring.slots[i] = none from Vector.getElem_replicate i.isLt] at held
    cases held
  · show ((State.cold u h).block b).Sound
    rw [State.cold_block]
    exact ⟨nofun, fun _ => rfl⟩

theorem State.ringSecond_keepsSound : KeepsSound s s.ringSecond := .setRing Ring.Sound.second

@[simp] theorem State.engineSecond_yard : s.engineSecond.yard = s.yard := by
  have tick : s.engineTick.yard = s.yard := by simp [State.engineTick, State.yard]
  refine forEach_keeps (P := fun t => t.yard = s.yard) (fun l t kept => ?_)
    (forEach_keeps (P := fun t => t.yard = s.yard) (fun p t kept => ?_) tick)
  · split <;> simp [kept]
  · split <;> simp [kept]

theorem execSecondEvent_keeps : OutcomeKeeps s (execSecondEvent s) := by
  have before : KeepsSound s s.tickClock.assemblerSecond := .of_yard ((State.assemblerSecond_yard _).trans rfl)
  exact .done (((before.trans (State.ringSecond_keepsSound _)).trans State.pacerSecond_keepsSound).yard
    (State.engineSecond_yard _))

theorem execIdleCountdownExpiry_keeps (n : Nat) : OutcomeKeeps s (execIdleCountdownExpiry n s) := by
  unfold execIdleCountdownExpiry
  split
  · split
    · exact .doneYard (s.idleExpired_yard _)
    · exact .idle s
  · exact .idle s

theorem execResendCountdownExpiry_keeps (n : Nat) : OutcomeKeeps s (execResendCountdownExpiry n s) := by
  unfold execResendCountdownExpiry
  split
  · split
    · exact .doneYard (s.resendExpired_yard _)
    · exact .idle s
  · exact .idle s

theorem execBarrierCountdownExpiry_keeps (n : Nat) : OutcomeKeeps s (execBarrierCountdownExpiry n s) := by
  unfold execBarrierCountdownExpiry
  split
  · split
    · exact .doneYard (s.barrierExpired_yard _)
    · exact .idle s
  · exact .idle s

theorem execBlockIdleCountdownExpiry_keeps (n : Nat) : OutcomeKeeps s (execBlockIdleCountdownExpiry n s) := by
  unfold execBlockIdleCountdownExpiry
  split
  · split
    · next expires =>
      obtain ⟨counting, -⟩ := Bool.and_eq_true_iff.mp expires
      obtain ⟨active, -⟩ := Bool.and_eq_true_iff.mp counting
      exact .done (.modActive active rfl YardBlock.InBounds.idleExpired)
    · exact .idle s
  · exact .idle s

theorem execStagingLimitTimeout_keeps (n : Nat) : OutcomeKeeps s (execStagingLimitTimeout n s) := by
  unfold execStagingLimitTimeout
  split
  · split
    · exact .doneYard (by simp)
    · exact .idle s
  · exact .idle s

/-- Of all frames only a YARD_STATE reaches the blocks (R180 to R183). -/
theorem State.receive_keepsSound (p : Port) (f : Frame) : KeepsSound s (s.receive p f) := by
  have delivered (q : Request) : (s.deliverRequest q).yard = s.yard := by
    unfold State.deliverRequest
    split <;> rfl
  unfold State.receive
  split
  · exact .refl s
  · split
    · exact .of_yard (s.bridge_yard p f)
    · split
      · exact .of_yard rfl
      · split
        · unfold State.laneMessage
          split
          · refine .of_yard ((State.deliverReport_yard _ _).trans ?_)
            split <;> simp
          · exact .of_yard rfl
        · unfold State.uplinkMessage
          split
          · split
            · exact State.takeYardState_keepsSound _ _ _ _
            · exact .of_yard rfl
          · split
            · exact .of_yard (delivered _)
            · exact .of_yard rfl
          · exact .of_yard rfl
          · exact .of_yard rfl
          · exact .of_yard rfl

theorem execCheckStart_keeps : OutcomeKeeps s (execCheckStart s) := by
  have popped {q : List RecNo} : KeepsSound s { s with check := { s.check with queue := q } } := .of_yard rfl
  unfold execCheckStart
  split
  · exact .done (popped.trans (State.startCheck_keepsSound _))
  · exact .idle s

theorem execBookingLookup_keeps : OutcomeKeeps s (execBookingLookup s) := by
  have released : KeepsSound s s.releaseStore := .of_yard rfl
  unfold execBookingLookup
  split
  · dsimp only
    split
    · split
      · exact .done (released.trans (State.holdBooking_keepsSound _ _ _))
      · exact .done (released.trans (State.judge_keepsSound _))
    · exact .done released
  · dsimp only
    split
    · split
      · exact .done (released.trans (State.holdBooking_keepsSound _ _ _))
      · exact .done (released.trans (State.nextCandidate_keepsSound _))
    · exact .done released
  · exact .idle s

theorem execIndexLookup_keeps : OutcomeKeeps s (execIndexLookup s) := by
  have released : KeepsSound s s.releaseStore := .of_yard rfl
  unfold execIndexLookup
  split
  · dsimp only
    split
    · exact .done (released.trans (State.nextCandidate_keepsSound _))
    · exact .done released
  · exact .idle s

theorem execConfirm_keeps : OutcomeKeeps s (execConfirm s) := by
  unfold execConfirm
  split
  · next i tag abandoned _ =>
    have confirmed : KeepsSound s (s.confirmAccess i tag).1.releaseStore :=
      (State.confirmAccess_keepsSound i tag).yard rfl
    dsimp only
    split
    · exact .done (confirmed.trans (State.afterConfirm_keepsSound _ _))
    · exact .done confirmed
  · exact .idle s

theorem execUplinkTransmitDone_keeps : OutcomeKeeps s (execUplinkTransmitDone s) := by
  unfold execUplinkTransmitDone
  split
  · exact .idle s
  · exact .doneYard rfl
  · exact .doneYard rfl
  · refine .doneYard ?_
    split
    · exact (State.reportSent_yard _).trans rfl
    · rfl
  · exact .doneYard rfl

theorem execLaneTransmitDone_keeps : OutcomeKeeps s (execLaneTransmitDone s) := by
  unfold execLaneTransmitDone
  split
  · exact .idle s
  · exact .doneYard rfl
  · exact .doneYard rfl

theorem execBadRequest_keeps : OutcomeKeeps s (execBadRequest s) := by
  unfold execBadRequest State.nextBody?
  split
  · next taken =>
    split at taken
    · cases taken
      split
      · exact .doneYard rfl
      · exact .idle s
    · cases taken
  · exact .idle s

theorem execColdSweepComplete_keeps : OutcomeKeeps s (execColdSweepComplete s) := by
  unfold execColdSweepComplete
  split
  · exact .done ((State.clearStore_keepsSound 1).yard rfl)
  · exact .idle s

theorem execClearComplete_keeps : OutcomeKeeps s (execClearComplete s) := by
  unfold execClearComplete
  split
  · exact .completed (State.clearStore_keepsSound _)
  · exact .idle s

theorem execManagementAccessComplete_keeps : OutcomeKeeps s (execManagementAccessComplete s) := by
  unfold execManagementAccessComplete
  split
  · exact .completed (State.bookingWrite_keepsSound _)
  · exact .completed (State.bookingCancel_keepsSound _ _)
  · exact .completed (State.bookingDelete_keepsSound _ _)
  · exact .completed (.of_yard (by rw [State.bookingRead_state]))
  · exact .idle s

theorem execSetPartition_keeps : OutcomeKeeps s (execSetPartition s) := by
  unfold execSetPartition
  split
  · next taken =>
    split
    · exact .answered taken (.refl _)
    · split
      · exact .answered taken (.refl _)
      · exact .asked taken _
  · exact .idle s

/-- A period is a 4-byte number (R63, R188). -/
theorem request?_windowWrite {body : List Byte} {p start length capacity allowance early late : Nat}
    (read : request? body = some (.windowWrite p start length capacity allowance early late)) : p ≤ max32 := by
  have word (i : Nat) : wordAt body i ≤ 65535 := by
    have high := (body.getD i 0).isLt
    have low := (body.getD (i + 1) 0).isLt
    unfold wordAt byteAt
    omega
  unfold request? at read
  split at read
  · unfold requestFields? at read
    split at read <;> cases read
    have high := word 1
    have low := word (1 + 2)
    unfold longAt max32
    omega
  · cases read

theorem execWindowWrite_keeps : OutcomeKeeps s (execWindowWrite s) := by
  unfold execWindowWrite
  split
  · next taken =>
    obtain ⟨rest, ⟨-, body, -, read⟩, -⟩ := State.next_takes taken
    exact .answered taken (State.windowWrite_keepsSound _ (request?_windowWrite read))
  · exact .idle s

/-! ### The reports of the intake queue (R30 to R41) -/

theorem execPlateRead_keeps : OutcomeKeeps s (execPlateRead s) := by
  unfold execPlateRead
  split
  · exact .doneYard (State.routeMergeable_yard _ _)
  · exact .idle s

theorem execContainerRead_keeps : OutcomeKeeps s (execContainerRead s) := by
  unfold execContainerRead
  split
  · exact .doneYard (State.routeMergeable_yard _ _)
  · exact .idle s

theorem execCredentialRead_keeps : OutcomeKeeps s (execCredentialRead s) := by
  unfold execCredentialRead
  split
  · exact .doneYard (State.routeMergeable_yard _ _)
  · exact .idle s

theorem execBookingEntry_keeps : OutcomeKeeps s (execBookingEntry s) := by
  unfold execBookingEntry
  split
  · exact .doneYard (State.routeMergeable_yard _ _)
  · exact .idle s

theorem execSealRead_keeps : OutcomeKeeps s (execSealRead s) := by
  unfold execSealRead
  split
  · exact .doneYard (State.routeMergeable_yard _ _)
  · exact .idle s

theorem execDamagePanel_keeps : OutcomeKeeps s (execDamagePanel s) := by
  unfold execDamagePanel
  split
  · exact .doneYard (State.routeMergeable_yard _ _)
  · exact .idle s

theorem execSignal_keeps : OutcomeKeeps s (execSignal s) := by
  unfold execSignal
  split
  · exact .doneYard (State.routeSignal_yard _ _ _)
  · exact .idle s

theorem execShown_keeps : OutcomeKeeps s (execShown s) := by
  unfold execShown
  split
  · exact .doneYard (State.routeShown_yard _ _ _)
  · exact .idle s

theorem execPassed_keeps : OutcomeKeeps s (execPassed s) := by
  unfold execPassed
  split
  · exact .doneYard (State.routePassed_yard _ _)
  · exact .idle s

/-! ### The requests (TABLE 10-1) -/

theorem execStationWrite_keeps : OutcomeKeeps s (execStationWrite s) := by
  unfold execStationWrite
  split
  · next taken => exact .answeredYard taken (State.stationWrite_yard _ _ _ _ _ _)
  · exact .idle s

theorem execStationRead_keeps : OutcomeKeeps s (execStationRead s) := by
  unfold execStationRead
  split
  · next taken => exact .answeredYard taken (State.stationRead_yard _ _)
  · exact .idle s

theorem execCodeWrite_keeps : OutcomeKeeps s (execCodeWrite s) := by
  unfold execCodeWrite
  split
  · next taken => exact .answeredYard taken (State.codeWrite_yard _ _ _ _ _)
  · exact .idle s

theorem execCodeRead_keeps : OutcomeKeeps s (execCodeRead s) := by
  unfold execCodeRead
  split
  · next taken => exact .answeredYard taken (State.codeRead_yard _ _)
  · exact .idle s

theorem execWatchWrite_keeps : OutcomeKeeps s (execWatchWrite s) := by
  unfold execWatchWrite
  split
  · next taken => exact .answeredYard taken (State.watchWrite_yard _ _ _ _)
  · exact .idle s

theorem execWatchRead_keeps : OutcomeKeeps s (execWatchRead s) := by
  unfold execWatchRead
  split
  · next taken => exact .answeredYard taken (State.watchRead_yard _ _)
  · exact .idle s

theorem execWindowDelete_keeps : OutcomeKeeps s (execWindowDelete s) := by
  unfold execWindowDelete
  split
  · next taken => exact .answered taken (State.windowDelete_keepsSound _ _)
  · exact .idle s

theorem execWindowRead_keeps : OutcomeKeeps s (execWindowRead s) := by
  unfold execWindowRead
  split
  · next taken => exact .answeredYard taken (State.windowRead_yard _ _)
  · exact .idle s

theorem execBlockWrite_keeps : OutcomeKeeps s (execBlockWrite s) := by
  unfold execBlockWrite
  split
  · next taken => exact .answered taken (State.blockWrite_keepsSound _ _ _)
  · exact .idle s

theorem execBlockTune_keeps : OutcomeKeeps s (execBlockTune s) := by
  unfold execBlockTune
  split
  · next taken => exact .answered taken (State.blockTune_keepsSound _ _ _)
  · exact .idle s

theorem execBlockDisable_keeps : OutcomeKeeps s (execBlockDisable s) := by
  unfold execBlockDisable
  split
  · next taken => exact .answered taken (State.blockDisable_keepsSound _ _)
  · exact .idle s

theorem execBlockRead_keeps : OutcomeKeeps s (execBlockRead s) := by
  unfold execBlockRead
  split
  · next taken => exact .answered taken (State.blockRead_keepsSound _ _)
  · exact .idle s

theorem execBookingWrite_keeps : OutcomeKeeps s (execBookingWrite s) := by
  unfold execBookingWrite
  split
  · next taken => exact .asked taken _
  · exact .idle s

theorem execBookingCancel_keeps : OutcomeKeeps s (execBookingCancel s) := by
  unfold execBookingCancel
  split
  · next taken => exact .asked taken _
  · exact .idle s

theorem execBookingDelete_keeps : OutcomeKeeps s (execBookingDelete s) := by
  unfold execBookingDelete
  split
  · next taken => exact .asked taken _
  · exact .idle s

theorem execBookingRead_keeps : OutcomeKeeps s (execBookingRead s) := by
  unfold execBookingRead
  split
  · next taken => exact .asked taken _
  · exact .idle s

theorem execParamWrite_keeps : OutcomeKeeps s (execParamWrite s) := by
  unfold execParamWrite
  split
  · next taken => exact .answeredYard taken (State.paramWrite_yard _ _ _)
  · exact .idle s

theorem execParamRead_keeps : OutcomeKeeps s (execParamRead s) := by
  unfold execParamRead
  split
  · next taken => exact .answeredYard taken (State.paramRead_yard _ _)
  · exact .idle s

theorem execTimeSet_keeps : OutcomeKeeps s (execTimeSet s) := by
  unfold execTimeSet
  split
  · next taken => exact .answered taken (State.timeSet_keepsSound _ _)
  · exact .idle s

theorem execLaneOpen_keeps : OutcomeKeeps s (execLaneOpen s) := by
  unfold execLaneOpen
  split
  · next taken => exact .answeredYard taken (State.laneOpen_yard _ _)
  · exact .idle s

theorem execLaneStop_keeps : OutcomeKeeps s (execLaneStop s) := by
  unfold execLaneStop
  split
  · next taken => exact .answeredYard taken (State.laneStop_yard _ _)
  · exact .idle s

theorem execLaneFlush_keeps : OutcomeKeeps s (execLaneFlush s) := by
  unfold execLaneFlush
  split
  · next taken => exact .answeredYard taken (State.laneFlush_yard _ _)
  · exact .idle s

theorem execVisitRead_keeps : OutcomeKeeps s (execVisitRead s) := by
  unfold execVisitRead
  split
  · next taken => exact .answeredYard taken (State.visitRead_yard _ _)
  · exact .idle s

theorem execVisitRelease_keeps : OutcomeKeeps s (execVisitRelease s) := by
  unfold execVisitRelease
  split
  · next taken => exact .answered taken (State.visitRelease_keepsSound _ _ _)
  · exact .idle s

theorem execVisitReject_keeps : OutcomeKeeps s (execVisitReject s) := by
  unfold execVisitReject
  split
  · next taken => exact .answeredYard taken (State.visitReject_yard _ _)
  · exact .idle s

theorem execSendUrgent_keeps : OutcomeKeeps s (execSendUrgent s) := by
  unfold execSendUrgent
  split
  · next taken => exact .answeredYard taken (State.sendUrgent_yard _ _ _ _ _ _ _)
  · exact .idle s

theorem execBarrierClear_keeps : OutcomeKeeps s (execBarrierClear s) := by
  unfold execBarrierClear
  split
  · next taken => exact .answeredYard taken (State.barrierClear_yard _ _)
  · exact .idle s

theorem execNoticeAck_keeps : OutcomeKeeps s (execNoticeAck s) := by
  unfold execNoticeAck
  split
  · next taken => exact .answeredYard taken (State.noticeAck_yard _ _)
  · exact .idle s

theorem execAlertRead_keeps : OutcomeKeeps s (execAlertRead s) := by
  unfold execAlertRead
  split
  · next taken => exact .answeredYard taken (State.alertRead_yard _ _)
  · exact .idle s

theorem execCountersRead_keeps : OutcomeKeeps s (execCountersRead s) := by
  unfold execCountersRead
  split
  · next taken => exact .answeredYard taken (State.countersRead_yard _ _)
  · exact .idle s

theorem execReportHold_keeps : OutcomeKeeps s (execReportHold s) := by
  unfold execReportHold
  split
  · next taken => exact .answeredYard taken (State.reportHold_yard _)
  · exact .idle s

theorem execReportResume_keeps : OutcomeKeeps s (execReportResume s) := by
  unfold execReportResume
  split
  · next taken => exact .answeredYard taken (State.reportResume_yard _)
  · exact .idle s

theorem execWarmReset_keeps : OutcomeKeeps s (execWarmReset s) := by
  unfold execWarmReset
  split
  · next taken => exact .answered taken (State.warm_keepsSound _)
  · exact .idle s

theorem execIdentify_keeps : OutcomeKeeps s (execIdentify s) := by
  unfold execIdentify
  split
  · next taken => exact .answered taken (KeepsSound.refl _)
  · exact .idle s

/-- No command breaks the window ring or a yard block. -/
theorem exec_keepsSound (c : Instr) : OutcomeKeeps s (exec c s) := by
  cases c with
  | coldReset unitAddr typeHigh => exact execColdReset_keeps s unitAddr typeHigh
  | coldSweepComplete => exact execColdSweepComplete_keeps s
  | secondEvent => exact execSecondEvent_keeps s
  | idleCountdownExpiry lane => exact execIdleCountdownExpiry_keeps s lane
  | resendCountdownExpiry point => exact execResendCountdownExpiry_keeps s point
  | barrierCountdownExpiry lane => exact execBarrierCountdownExpiry_keeps s lane
  | blockIdleCountdownExpiry block => exact execBlockIdleCountdownExpiry_keeps s block
  | stagingLimitTimeout visit => exact execStagingLimitTimeout_keeps s visit
  | frameDiscard port f => exact .done (s.receive_keepsSound port f)
  | malformedMessage port f => exact .done (s.receive_keepsSound port f)
  | passThroughFrame port f => exact .done (s.receive_keepsSound port f)
  | laneReport f => exact .done (s.receive_keepsSound .lane f)
  | uplinkLaneCommand f => exact .done (s.receive_keepsSound .uplink f)
  | yardState f => exact .done (s.receive_keepsSound .uplink f)
  | mgmtRequest f => exact .done (s.receive_keepsSound .uplink f)
  | plateRead => exact execPlateRead_keeps s
  | containerRead => exact execContainerRead_keeps s
  | credentialRead => exact execCredentialRead_keeps s
  | bookingEntry => exact execBookingEntry_keeps s
  | sealRead => exact execSealRead_keeps s
  | damagePanel => exact execDamagePanel_keeps s
  | signal => exact execSignal_keeps s
  | shown => exact execShown_keeps s
  | passed => exact execPassed_keeps s
  | checkStart => exact execCheckStart_keeps s
  | tableStoreGrant => exact .doneYard rfl
  | bookingLookup => exact execBookingLookup_keeps s
  | indexLookup => exact execIndexLookup_keeps s
  | confirm => exact execConfirm_keeps s
  | uplinkTransmitDone => exact execUplinkTransmitDone_keeps s
  | laneTransmitDone => exact execLaneTransmitDone_keeps s
  | badRequest => exact execBadRequest_keeps s
  | stationWrite => exact execStationWrite_keeps s
  | stationRead => exact execStationRead_keeps s
  | codeWrite => exact execCodeWrite_keeps s
  | codeRead => exact execCodeRead_keeps s
  | watchWrite => exact execWatchWrite_keeps s
  | watchRead => exact execWatchRead_keeps s
  | windowWrite => exact execWindowWrite_keeps s
  | windowDelete => exact execWindowDelete_keeps s
  | windowRead => exact execWindowRead_keeps s
  | blockWrite => exact execBlockWrite_keeps s
  | blockTune => exact execBlockTune_keeps s
  | blockDisable => exact execBlockDisable_keeps s
  | blockRead => exact execBlockRead_keeps s
  | bookingWrite => exact execBookingWrite_keeps s
  | bookingCancel => exact execBookingCancel_keeps s
  | bookingDelete => exact execBookingDelete_keeps s
  | bookingRead => exact execBookingRead_keeps s
  | paramWrite => exact execParamWrite_keeps s
  | paramRead => exact execParamRead_keeps s
  | setPartition => exact execSetPartition_keeps s
  | clearComplete => exact execClearComplete_keeps s
  | timeSet => exact execTimeSet_keeps s
  | laneOpen => exact execLaneOpen_keeps s
  | laneStop => exact execLaneStop_keeps s
  | laneFlush => exact execLaneFlush_keeps s
  | visitRead => exact execVisitRead_keeps s
  | visitRelease => exact execVisitRelease_keeps s
  | visitReject => exact execVisitReject_keeps s
  | sendUrgent => exact execSendUrgent_keeps s
  | barrierClear => exact execBarrierClear_keeps s
  | noticeAck => exact execNoticeAck_keeps s
  | alertRead => exact execAlertRead_keeps s
  | countersRead => exact execCountersRead_keeps s
  | reportHold => exact execReportHold_keeps s
  | reportResume => exact execReportResume_keeps s
  | warmReset => exact execWarmReset_keeps s
  | identify => exact execIdentify_keeps s
  | managementAccessComplete => exact execManagementAccessComplete_keeps s

end Commands

/-- Settles O52: a step is the command at the front of the queue, and no command breaks the ring or a block
(`exec_keepsSound`). -/
theorem ringAndBlocksStaySound : Obligations.RingAndBlocksStaySound := by
  unfold Obligations.RingAndBlocksStaySound
  intro s t stepped
  unfold step at stepped
  split at stepped
  · cases stepped
    exact KeepsSound.refl s
  · next c rest _ =>
    exact KeepsSound.trans (t := { s with pending := rest }) (.of_yard rfl) (exec_keepsSound _ c t stepped)

end Sys2Proof.Machine
end

section
/-! Proofs: the messages of the UPLINK port that reach the pacer and the request queue, and the requests that write,
tune and disable a yard block. -/

namespace Sys2Proof.Machine

open Sys2Proof

/-! ### YARD_STATE and MGMT_REQUEST (R116, R117, R165, R182) -/

/-- A frame that carries a well-formed message comes to the UPLINK port's own handling (R180, R182). -/
theorem State.receive_uplink_of_accepts {s : State} {f : Frame} {m : Message} (h : s.accepts f m) :
    s.receive .uplink f = s.uplinkMessage m := by
  obtain ⟨fcs, short, long, type, body⟩ := h
  have kept : frameAccepted f = true := by simp [frameAccepted, fcs, short, long]
  have selected : f.etherType = s.selectedType := type
  simp [State.receive, kept, selected, body]

section Taking

variable {s : State} {f : Frame}

theorem exec_yardState_of_accepts {st n : Nat} {ci ni : Bool} {er : Option Nat}
    (h : s.accepts f (.yardState st n ci ni er)) :
    exec (.yardState f) s = .next (State.settle
      (if st = s.mgmt.unitAddr.toNat then s.takeYardState n ci ni er else s.count .malformed)) :=
  congrArg (fun t => Host.Outcome.next (State.settle t)) (State.receive_uplink_of_accepts h)

theorem exec_mgmtRequest_of_accepts {st : Nat} {q : Request} (h : s.accepts f (.mgmtRequest st q)) :
    exec (.mgmtRequest f) s = .next (State.settle
      (if st = s.mgmt.unitAddr.toNat then s.deliverRequest q else s.count .malformed)) :=
  congrArg (fun t => Host.Outcome.next (State.settle t)) (State.receive_uplink_of_accepts h)

variable {b : BlockNo} (ci ni : Bool) (er : Option Nat)

/-- An ACTIVE block takes the feedback update (R116). -/
theorem State.takeYardState_active (written : (s.block b).written = true) (active : (s.block b).active = true) :
    s.takeYardState (b.val + 1) ci ni er = s.modBlock b (fun x => x.feedback ci ni er) := by
  simp [State.takeYardState, place_succ b, written, active]

/-- An update for a block that is not written or DISABLED is counted (R116). -/
theorem State.takeYardState_inactive (off : (s.block b).written = false ∨ (s.block b).active = false) :
    s.takeYardState (b.val + 1) ci ni er = s.count .unknownFeedback := by
  rcases off with off | off <;> simp [State.takeYardState, place_succ b, off]

theorem State.takeYardState_noBlock {n : Nat} (range : n = 0 ∨ 32 < n) :
    s.takeYardState n ci ni er = s.count .unknownFeedback := by
  simp only [State.takeYardState, place_none range]

end Taking

/-- Settles O13: by the unit address, then by the block the update names; a request by the room in the queue. -/
theorem uplinkMessagesAreTaken : Obligations.UplinkMessagesAreTaken := by
  unfold Obligations.UplinkMessagesAreTaken
  refine ⟨fun s f st n ci ni er accepted => ?_, fun s f st q accepted => ?_⟩
  · rw [exec_yardState_of_accepts accepted]
    refine ⟨?_, fun ours off => ?_, fun other => by rw [if_neg other]⟩
    · rintro b a ours rfl written active rfl
      rw [if_pos ours, State.takeYardState_active ci ni er written active]
      rfl
    · rw [if_pos ours]
      rcases off with zero | high | ⟨b, rfl, off⟩
      · rw [State.takeYardState_noBlock ci ni er (.inl zero)]
      · rw [State.takeYardState_noBlock ci ni er (.inr high)]
      · rw [State.takeYardState_inactive ci ni er off]
  · rw [exec_mgmtRequest_of_accepts accepted]
    refine ⟨fun ours room => ?_, fun ours full => ?_, fun other => by rw [if_neg other]⟩
    · rw [if_pos ours, State.deliverRequest, if_pos room]
    · rw [if_pos ours, State.deliverRequest, if_neg (Nat.not_lt.mpr full)]

/-! ### BLOCK_WRITE, BLOCK_TUNE and BLOCK_DISABLE (R112 to R114) -/

section Taken

variable {s : State} {tag n : Nat} {p : BlockParams} {rest : List Request} {a : Answer} {b : BlockNo}

/-- An answer OK that changes one block goes out with that block changed. -/
theorem done_block (kind : Nat) {f : YardBlock → YardBlock} (effect : a = granted ((s.taken rest).modBlock b f)) :
    done (answer tag kind a) = .next (State.settle (State.answeredWith rest ⟨tag, kind, .ok, .none⟩
      { s with pacer := { s.pacer with blocks := s.pacer.blocks.set b.val (f (s.block b)) } })) :=
  (done_answer kind effect rfl).trans rfl

theorem exec_blockWrite_of_takes (h : s.takes tag (.blockWrite n p) rest) :
    exec .blockWrite s = done (answer tag 10 ((s.taken rest).blockWrite n p)) := by
  show execBlockWrite s = _
  rw [execBlockWrite, State.takes_next h]
  rfl

theorem exec_blockTune_of_takes (h : s.takes tag (.blockTune n p) rest) :
    exec .blockTune s = done (answer tag 11 ((s.taken rest).blockTune n p)) := by
  show execBlockTune s = _
  rw [execBlockTune, State.takes_next h]
  rfl

theorem exec_blockDisable_of_takes (h : s.takes tag (.blockDisable n) rest) :
    exec .blockDisable s = done (answer tag 12 ((s.taken rest).blockDisable n)) := by
  show execBlockDisable s = _
  rw [execBlockDisable, State.takes_next h]
  rfl

theorem State.blockWrite_eq (s : State) (b : BlockNo) (p : BlockParams) :
    s.blockWrite (b.val + 1) p =
      if p.legal then granted (s.modBlock b (fun _ => YardBlock.fresh p)) else refuse .badRecord s :=
  State.onBlock_succ s _ b

theorem State.blockTune_illegal (illegal : ¬ p.legal = true) : s.blockTune (b.val + 1) p = refuse .badRecord s := by
  simp [State.blockTune, State.onBlock_succ, illegal]

theorem State.blockTune_legal (legal : p.legal = true) :
    s.blockTune (b.val + 1) p =
      if (s.block b).written then granted (s.modBlock b (fun x => x.tuned p)) else refuse .wrongState s := by
  cases written : (s.block b).written <;> simp [State.blockTune, State.onBlock_succ, legal, written]

theorem State.blockDisable_eq (s : State) (b : BlockNo) :
    s.blockDisable (b.val + 1) =
      if (s.block b).active then granted (s.modBlock b (fun x => { x with active := false }))
      else refuse .wrongState s :=
  State.onBlock_succ s _ b

end Taken

/-- Settles O42: each request by the block's number, the field tests and the block's state, in this order. -/
theorem blockWritesTunesDisables : Obligations.BlockWritesTunesDisables := by
  unfold Obligations.BlockWritesTunesDisables
  intro legal legalIs
  obtain rfl : legal = fun p => p.legal = true :=
    funext fun p => propext ((legalIs p).trans BlockParams.legal_iff.symm)
  refine ⟨fun s tag n p rest takes => ?_, fun s tag n p rest takes => ?_, fun s tag n rest takes => ?_⟩
  · rw [exec_blockWrite_of_takes takes]
    refine ⟨fun range => done_read 10 (State.onBlock_badIndex _ _ range), ?_⟩
    rintro b rfl
    have written := (s.taken rest).blockWrite_eq b p
    exact ⟨fun illegal => done_read 10 (written.trans (if_neg illegal)),
      fun legal => done_block (f := fun _ => YardBlock.fresh p) 10 (written.trans (if_pos legal))⟩
  · rw [exec_blockTune_of_takes takes]
    refine ⟨fun range => done_read 11 (State.onBlock_badIndex _ _ range), ?_⟩
    rintro b rfl
    refine ⟨fun illegal => done_read 11 (State.blockTune_illegal illegal), fun legal unwritten => ?_,
      fun legal written => ?_⟩
    · have tuned := State.blockTune_legal (s := s.taken rest) (b := b) legal
      exact done_read 11 (tuned.trans (if_neg (ne_true_of_eq_false unwritten)))
    · have tuned := State.blockTune_legal (s := s.taken rest) (b := b) legal
      exact done_block (f := fun x => x.tuned p) 11 (tuned.trans (if_pos written))
  · rw [exec_blockDisable_of_takes takes]
    refine ⟨fun range => done_read 12 (State.onBlock_badIndex _ _ range), ?_⟩
    rintro b rfl
    have disabled := (s.taken rest).blockDisable_eq b
    exact ⟨fun off => done_read 12 (disabled.trans (if_neg (ne_true_of_eq_false off))),
      fun active => done_block (f := fun x => { x with active := false }) 12 (disabled.trans (if_pos active))⟩

end Sys2Proof.Machine
end

section
/-! Proofs: a debit, and how credit and free rows go to the trucks that wait for them. -/

namespace Sys2Proof.Machine

open Sys2Proof

/-! ### One step repeated while it can be made

Both parts of release service and the promotion repeat one step, bounded by a length of what waits. Each step lowers
the number of trucks it is for, so that the bound is never what ends the repetition. -/

/-- A step repeated until it cannot be made, at most so many times. -/
def repeatStep (step : State → Option State) : Nat → State → State
  | 0, s => s
  | k + 1, s =>
    match step s with
    | some t => repeatStep step k t
    | none => s

section Repeating

variable {step : State → Option State} {measure : State → Nat} {s t : State} {k j : Nat}

theorem repeatStep_none (k : Nat) (stuck : step s = none) : repeatStep step k s = s := by
  cases k with
  | zero => rfl
  | succ k => simp only [repeatStep, stuck]

theorem repeatStep_some (k : Nat) (made : step s = some t) : repeatStep step (k + 1) s = repeatStep step k t := by
  simp only [repeatStep, made]

/-- What every step keeps, the repetition keeps. -/
theorem repeatStep_keeps {P : State → Prop} (kept : ∀ s t, step s = some t → P s → P t) (k : Nat) (hs : P s) :
    P (repeatStep step k s) := by
  induction k generalizing s with
  | zero => exact hs
  | succ k ih =>
    cases made : step s with
    | none => rwa [repeatStep_none _ made]
    | some t =>
      rw [repeatStep_some k made]
      exact ih (kept s t made hs)

variable (falls : ∀ s t, step s = some t → measure t < measure s)
include falls

theorem step_none_of_measure (zero : measure s ≤ 0) : step s = none := by
  cases made : step s with
  | none => rfl
  | some t => exact absurd (falls s t made) (by omega)

/-- With enough turns no further step can be made. -/
theorem repeatStep_ends (enough : measure s ≤ k) : step (repeatStep step k s) = none := by
  induction k generalizing s with
  | zero => exact step_none_of_measure falls enough
  | succ k ih =>
    cases made : step s with
    | none => rwa [repeatStep_none _ made]
    | some t =>
      rw [repeatStep_some k made]
      exact ih (by have := falls s t made; omega)

/-- More turns than enough change nothing. -/
theorem repeatStep_enough (enough : measure s ≤ k) (also : measure s ≤ j) :
    repeatStep step k s = repeatStep step j s := by
  induction k generalizing s j with
  | zero =>
    have stuck := step_none_of_measure falls enough
    rw [repeatStep_none _ stuck, repeatStep_none _ stuck]
  | succ k ih =>
    cases made : step s with
    | none => rw [repeatStep_none _ made, repeatStep_none _ made]
    | some t =>
      have lower := falls s t made
      obtain ⟨i, rfl⟩ : ∃ i, j = i + 1 := ⟨j - 1, by omega⟩
      rw [repeatStep_some k made, repeatStep_some i made]
      exact ih (by omega) (by omega)

/-- The repetition goes on from the first step. -/
theorem repeatStep_unroll (made : step s = some t) (enough : measure s ≤ k) (also : measure t ≤ j) :
    repeatStep step k s = repeatStep step j t := by
  have lower := falls s t made
  obtain ⟨i, rfl⟩ : ∃ i, k = i + 1 := ⟨k - 1, by omega⟩
  rw [repeatStep_some i made]
  exact repeatStep_enough falls (by omega) also

end Repeating

/-! ### A debit (R119 to R121) -/

section Debit

variable {s : State} {b : BlockNo}

theorem State.canDebit_iff : s.canDebit b = true ↔ (s.block b).active = true ∧ 57600 ≤ (s.block b).credit := by
  rw [State.canDebit, Bool.and_eq_true, decide_eq_true_iff]
  rfl

theorem State.canDebit_eq_false_iff :
    s.canDebit b = false ↔ (s.block b).active = false ∨ (s.block b).credit < 57600 := by
  rw [← Bool.not_eq_true, State.canDebit_iff, not_and_or, Bool.not_eq_true, Nat.not_le]

theorem YardBlock.debited_eq (x : YardBlock) : x.debited =
    { x with credit := x.credit - 57600, dsf := satInc max16 x.dsf, idleCountdown := x.params.idleReset } := by
  rw [YardBlock.debited, truckCredit]

theorem YardBlock.debited_missed_eq (x : YardBlock) : x.debited.missed =
    { x with credit := x.credit - 57600, dsf := 0, idleCountdown := x.params.idleReset,
             adr := max (x.adr - x.adr * x.params.df / 256) x.params.mdr, feedbackLost := true } := by
  rw [YardBlock.missed, YardBlock.decreased, YardBlock.debited_eq]

theorem YardBlock.missingReport_debited (x : YardBlock) :
    x.debited.missingReport = true ↔ x.params.mrl ≠ 0 ∧ x.params.mrl ≤ satInc max16 x.dsf := by
  have params : x.debited.params = x.params := by rw [YardBlock.debited]
  have count : x.debited.dsf = satInc max16 x.dsf := by rw [YardBlock.debited]
  rw [YardBlock.missingReport, Bool.and_eq_true, decide_eq_true_iff, bne_iff_ne, params, count]

theorem State.debit_reported (few : (s.block b).debited.missingReport = false) :
    s.debit b = s.modBlock b (fun _ => (s.block b).debited) := by
  simp [State.debit, few]

/-- A debit that finds MRL dispatches without feedback (R121). -/
theorem State.debit_missed (many : (s.block b).debited.missingReport = true) :
    s.debit b = (if (s.block b).feedbackLost then id else State.raise .feedbackLost)
      (s.modBlock b (fun _ => (s.block b).debited.missed)) := by
  have flag : (s.block b).debited.feedbackLost = (s.block b).feedbackLost := by rw [YardBlock.debited]
  simp only [State.debit, many, flag, if_true]
  split <;> rfl

/-- A debit changes its block and may raise FEEDBACK_LOST. -/
theorem State.debit_cases (s : State) (b : BlockNo) :
    ∃ x, s.debit b = s.modBlock b (fun _ => x) ∨ s.debit b = (s.modBlock b (fun _ => x)).raise .feedbackLost := by
  cases missing : (s.block b).debited.missingReport with
  | false => exact ⟨_, .inl (State.debit_reported missing)⟩
  | true =>
    refine ⟨(s.block b).debited.missed, ?_⟩
    rw [State.debit_missed missing]
    split
    · exact .inl rfl
    · exact .inr rfl

@[simp] theorem State.debit_asm (s : State) (b : BlockNo) : (s.debit b).asm = s.asm := by
  obtain ⟨x, changed | changed⟩ := s.debit_cases b <;> simp [changed]

@[simp] theorem State.debit_staged (s : State) (b : BlockNo) : (s.debit b).pacer.staged = s.pacer.staged := by
  obtain ⟨x, changed | changed⟩ := s.debit_cases b <;> simp [changed]

end Debit

/-! ### What a direction leaves of the staged queue (R141) -/

section Issued

variable (s : State)

@[simp] theorem State.issueLane_pacer (v : Nat) (l : Lane) (d : Direction) : (s.issueLane v l d).pacer = s.pacer :=
  congrArg MergeKept.pacer (s.issueLane_mergeKept v l d)

@[simp] theorem State.modNumbered_pacer (n : Nat) (f : Visit → Visit) : (s.modNumbered n f).pacer = s.pacer := by
  unfold State.modNumbered
  split <;> rfl

theorem State.enterReporting_pacer (r : RecNo) : (s.enterReporting r).pacer = s.pacer := by
  have placed (t : State) : (t.placeReport r).pacer = t.pacer := by
    unfold State.placeReport State.raiseLevel
    dsimp only
    split <;> simp
  unfold State.enterReporting
  dsimp only
  split
  · exact placed _
  · rfl

@[simp] theorem State.promoteAll_staged : s.promoteAll.pacer.staged = s.pacer.staged :=
  State.promote_keeps (P := fun t => t.pacer.staged = s.pacer.staged) (fun _ _ kept => kept)
    (fun t row r kept => by simp [State.promoteTo, kept]) _ rfl

theorem State.releaseDone_staged (v : Nat) : (s.releaseDone v).pacer.staged.Sublist s.pacer.staged := by
  unfold State.releaseDone
  split
  · exact .refl _
  · dsimp only
    split
    · exact List.filter_sublist
    · simp only [State.promoteAll_staged]
      exact List.filter_sublist

theorem boardHandOn_staged (p : Point) (d : Direction) :
    (boardHandOn p d s).pacer.staged.Sublist s.pacer.staged := by
  unfold boardHandOn
  split
  · exact .refl _
  · split
    · exact .refl _
    · split
      · rw [State.enterReporting_pacer]
        exact State.releaseDone_staged _ _
      · exact .refl _

/-- A direction at point 13 or 14 may complete others there, whose staged entries leave the queue. -/
theorem State.issueBoard_staged (v : Nat) (p : Point) (d : Direction) :
    (s.issueBoard v p d).pacer.staged.Sublist s.pacer.staged := by
  have entered : (s.enterDirection v p d).pacer = s.pacer := congrArg MergeKept.pacer (s.enterDirection_mergeKept v p d)
  have retired (t : State) (d : Direction) : (t.unconfirmed d).pacer = t.pacer :=
    congrArg MergeKept.pacer (t.unconfirmed_mergeKept d)
  have left (t : State) : (t.headLeaves p).pacer = t.pacer := congrArg MergeKept.pacer (t.headLeaves_mergeKept p)
  refine State.servePoint_keeps (P := fun t => t.pacer.staged.Sublist s.pacer.staged) (fun _ _ _ kept => kept)
    (fun t d kept => ?_) (fun _ _ _ kept => kept) (fun t d kept => ?_) _ (by rw [entered])
  · rw [retired]
    exact kept
  · refine (boardHandOn_staged _ p d).trans ?_
    rw [retired, left]
    exact kept

end Issued

/-! ### The staged part of release service (R137) -/

/-- A staged entry as the release of a visit leaves it. -/
def StagedEntry.releasedFor (n : Nat) (x : StagedEntry) : StagedEntry :=
  if x.visit = n then { x with released := true } else x

theorem StagedEntry.releasedFor_released {n : Nat} {x : StagedEntry} (was : x.released = true) :
    (x.releasedFor n).released = true := by
  unfold StagedEntry.releasedFor
  split
  · rfl
  · exact was

@[simp] theorem StagedEntry.releasedFor_visit (n : Nat) (x : StagedEntry) : (x.releasedFor n).visit = x.visit := by
  unfold StagedEntry.releasedFor
  split <;> rfl

@[simp] theorem StagedEntry.releasedFor_block (n : Nat) (x : StagedEntry) : (x.releasedFor n).block = x.block := by
  unfold StagedEntry.releasedFor
  split <;> rfl

theorem StagedEntry.releasedFor_own (x : StagedEntry) : (x.releasedFor x.visit).released = true := by
  rw [StagedEntry.releasedFor, if_pos rfl]

/-- Whether an entry waits for a block. -/
def StagedEntry.waitsFor (b : BlockNo) (e : StagedEntry) : Bool := e.block == b && !e.released

theorem StagedEntry.waitsFor_iff {b : BlockNo} {e : StagedEntry} :
    e.waitsFor b = true ↔ e.block = b ∧ e.released = false := by
  simp [StagedEntry.waitsFor]

/-- A release makes no entry wait. -/
theorem StagedEntry.waitsFor_of_releasedFor {b : BlockNo} {n : Nat} {x : StagedEntry}
    (waits : (x.releasedFor n).waitsFor b = true) : x.waitsFor b = true := by
  obtain ⟨block, unreleased⟩ := waitsFor_iff.mp waits
  refine waitsFor_iff.mpr ⟨(releasedFor_block n x).symm.trans block, ?_⟩
  by_contra was
  exact Bool.false_ne_true (unreleased.symm.trans (releasedFor_released (eq_true_of_ne_false was)))

/-- The number of entries that wait for a block falls with the release of one of them. -/
theorem countP_releasedFor_lt {b : BlockNo} {e : StagedEntry} {q : List StagedEntry} (listed : e ∈ q)
    (waits : e.waitsFor b = true) :
    (q.map (StagedEntry.releasedFor e.visit)).countP (StagedEntry.waitsFor b) < q.countP (StagedEntry.waitsFor b) := by
  obtain ⟨a, c, rfl⟩ := List.append_of_mem listed
  have others (q : List StagedEntry) :
      (q.map (StagedEntry.releasedFor e.visit)).countP (StagedEntry.waitsFor b)
        ≤ q.countP (StagedEntry.waitsFor b) := by
    rw [List.countP_map]
    exact List.countP_mono_left fun _ _ => StagedEntry.waitsFor_of_releasedFor
  have own : ¬ (e.releasedFor e.visit).waitsFor b = true := by
    simp [StagedEntry.waitsFor, e.releasedFor_own]
  have before := others a
  have after := others c
  rw [List.map_append, List.map_cons, List.countP_append, List.countP_append, List.countP_cons_of_neg own,
    List.countP_cons_of_pos waits]
  omega

/-- One release of the staged part: the oldest waiting entry, while the block can be debited. -/
def State.stagedStep (b : BlockNo) (s : State) : Option State :=
  if s.canDebit b then
    (s.pacer.staged.find? (StagedEntry.waitsFor b)).map (fun e => (s.debit b).releaseStaged e b)
  else none

/-- No staged entry waits for the block. -/
def State.StagedServed (b : BlockNo) (s : State) : Prop := ∀ e ∈ s.pacer.staged, e.block = b → e.released = true

section Staged

variable {s t : State} {b : BlockNo}

theorem State.serveStaged_eq (b : BlockNo) (k : Nat) (s : State) :
    State.serveStaged b k s = repeatStep (State.stagedStep b) k s := by
  induction k generalizing s with
  | zero => rfl
  | succ k ih =>
    unfold State.serveStaged
    split
    · next can =>
      split
      · next e found =>
        have made : s.stagedStep b = some ((s.debit b).releaseStaged e b) := by
          rw [State.stagedStep, if_pos can]
          exact congrArg _ found
        rw [repeatStep_some k made, ih]
      · next found =>
        have stuck : s.stagedStep b = none := by
          rw [State.stagedStep, if_pos can]
          exact congrArg _ found
        rw [repeatStep_none _ stuck]
    · next cannot => rw [repeatStep_none _ (if_neg cannot)]

theorem State.find_waitsFor_eq_none : s.pacer.staged.find? (StagedEntry.waitsFor b) = none ↔ s.StagedServed b := by
  simp [State.StagedServed, StagedEntry.waitsFor]

theorem State.stagedStep_eq_none : s.stagedStep b = none ↔ s.canDebit b = false ∨ s.StagedServed b := by
  rw [State.stagedStep, ← State.find_waitsFor_eq_none]
  cases s.canDebit b <;> simp

/-- The step, taken apart. -/
theorem State.stagedStep_eq_some : s.stagedStep b = some t ↔
    s.canDebit b = true ∧ ∃ e, s.pacer.staged.find? (StagedEntry.waitsFor b) = some e
      ∧ (s.debit b).releaseStaged e b = t := by
  rw [State.stagedStep]
  cases s.canDebit b <;> simp

/-- The staged queue after a release: the visit's entries released, and entries gone that were completed meanwhile. -/
theorem State.releaseStaged_staged (s : State) (e : StagedEntry) (b : BlockNo) :
    (s.releaseStaged e b).pacer.staged.Sublist (s.pacer.staged.map (StagedEntry.releasedFor e.visit)) := by
  refine (State.issueBoard_staged _ _ _ _).trans ?_
  rw [State.modNumbered_pacer]
  exact .refl _

theorem State.stagedStep_staged (made : s.stagedStep b = some t) : ∃ e ∈ s.pacer.staged, e.waitsFor b = true
    ∧ t.pacer.staged.Sublist (s.pacer.staged.map (StagedEntry.releasedFor e.visit)) := by
  obtain ⟨-, e, found, rfl⟩ := State.stagedStep_eq_some.mp made
  have staged := (s.debit b).releaseStaged_staged e b
  rw [State.debit_staged] at staged
  exact ⟨e, List.mem_of_find?_eq_some found, List.find?_some (p := StagedEntry.waitsFor b) found, staged⟩

/-- Each release leaves fewer entries that wait for the block. -/
theorem State.stagedStep_falls (b : BlockNo) (s t : State) (made : s.stagedStep b = some t) :
    t.pacer.staged.countP (StagedEntry.waitsFor b) < s.pacer.staged.countP (StagedEntry.waitsFor b) := by
  obtain ⟨e, listed, waits, staged⟩ := State.stagedStep_staged made
  exact (List.Sublist.countP_le staged).trans_lt (countP_releasedFor_lt listed waits)

/-- Every entry of a visit is released. -/
def State.ReleasedFor (n : Nat) (s : State) : Prop := ∀ f ∈ s.pacer.staged, f.visit = n → f.released = true

theorem State.releaseStaged_releasedFor (s : State) (e : StagedEntry) (b : BlockNo) :
    (s.releaseStaged e b).ReleasedFor e.visit := by
  rintro f listed visit
  obtain ⟨x, -, rfl⟩ := List.mem_map.mp ((s.releaseStaged_staged e b).subset listed)
  rw [StagedEntry.releasedFor_visit] at visit
  rw [← visit]
  exact x.releasedFor_own

theorem State.stagedStep_releasedFor {n : Nat} (made : s.stagedStep b = some t) (kept : s.ReleasedFor n) :
    t.ReleasedFor n := by
  obtain ⟨e, -, -, staged⟩ := State.stagedStep_staged made
  intro f listed visit
  obtain ⟨x, was, rfl⟩ := List.mem_map.mp (staged.subset listed)
  exact StagedEntry.releasedFor_released (kept x was ((StagedEntry.releasedFor_visit _ _).symm.trans visit))

end Staged

/-! ### The lane-wait part of release service (R138) -/

/-- One release of the lane-wait part: the oldest entry for the block, while the block can be debited. -/
def State.laneWaitStep (b : BlockNo) (s : State) : Option State :=
  if s.canDebit b then
    (s.pacer.laneWait.find? (fun e => e.block == b)).map (fun e => s.releaseLaneWaiting e b)
  else none

section LaneWait

variable {s t : State} {b : BlockNo}

theorem State.serveLaneWait_eq (b : BlockNo) (k : Nat) (s : State) :
    State.serveLaneWait b k s = repeatStep (State.laneWaitStep b) k s := by
  induction k generalizing s with
  | zero => rfl
  | succ k ih =>
    unfold State.serveLaneWait
    split
    · next can =>
      split
      · next e found =>
        have made : s.laneWaitStep b = some (s.releaseLaneWaiting e b) := by
          rw [State.laneWaitStep, if_pos can, found, Option.map_some]
        rw [repeatStep_some k made, ih]
      · next found =>
        have stuck : s.laneWaitStep b = none := by rw [State.laneWaitStep, if_pos can, found, Option.map_none]
        rw [repeatStep_none _ stuck]
    · next cannot => rw [repeatStep_none _ (if_neg cannot)]

theorem State.laneWaitStep_eq_none :
    s.laneWaitStep b = none ↔ s.canDebit b = false ∨ ∀ e ∈ s.pacer.laneWait, e.block ≠ b := by
  rw [State.laneWaitStep]
  cases s.canDebit b <;> simp

theorem State.laneWaitStep_eq_some : s.laneWaitStep b = some t ↔
    s.canDebit b = true ∧ ∃ e, s.pacer.laneWait.find? (fun e => e.block == b) = some e
      ∧ s.releaseLaneWaiting e b = t := by
  rw [State.laneWaitStep]
  cases s.canDebit b <;> simp

/-- The pacer after a lane-waiting visit is released: its entries gone, and the staged queue as it was. -/
theorem State.releaseLaneWaiting_pacer (s : State) (e : LaneWaitEntry) (b : BlockNo) :
    (s.releaseLaneWaiting e b).pacer.laneWait = s.pacer.laneWait.filter (fun x => x.visit != e.visit)
      ∧ (s.releaseLaneWaiting e b).pacer.staged = s.pacer.staged := by
  unfold State.releaseLaneWaiting
  dsimp only
  split <;> simp

/-- Each release leaves fewer lane-waiting visits for the block. -/
theorem State.laneWaitStep_falls (b : BlockNo) (s t : State) (made : s.laneWaitStep b = some t) :
    t.pacer.laneWait.countP (fun e => e.block == b) < s.pacer.laneWait.countP (fun e => e.block == b) := by
  obtain ⟨-, e, found, rfl⟩ := State.laneWaitStep_eq_some.mp made
  obtain ⟨a, c, split⟩ := List.append_of_mem (List.mem_of_find?_eq_some found)
  have own : (e.block == b) = true := List.find?_some (p := fun e : LaneWaitEntry => e.block == b) found
  have others (q : List LaneWaitEntry) :
      (q.filter (fun x => x.visit != e.visit)).countP (fun e => e.block == b) ≤ q.countP (fun e => e.block == b) :=
    List.Sublist.countP_le List.filter_sublist
  have before := others a
  have after := others c
  rw [(s.releaseLaneWaiting_pacer e b).1, split, List.filter_append, List.filter_cons_of_neg (by simp),
    List.countP_append, List.countP_append,
    List.countP_cons_of_pos (p := fun e : LaneWaitEntry => e.block == b) own]
  omega

theorem State.laneWaitStep_staged (made : s.laneWaitStep b = some t) : t.pacer.staged = s.pacer.staged := by
  obtain ⟨-, e, -, rfl⟩ := State.laneWaitStep_eq_some.mp made
  exact (s.releaseLaneWaiting_pacer e b).2

end LaneWait

/-! ### Release service (R137, R138) -/

section Service

variable {s t : State} {b : BlockNo}

/-- The state between the two parts of release service. -/
def State.stagedServed (b : BlockNo) (s : State) : State := repeatStep (State.stagedStep b) s.pacer.staged.length s

theorem State.releaseService_eq (b : BlockNo) (s : State) :
    s.releaseService b
      = repeatStep (State.laneWaitStep b) (s.stagedServed b).pacer.laneWait.length (s.stagedServed b) := by
  rw [State.releaseService, State.serveStaged_eq, State.serveLaneWait_eq]
  rfl

/-- The staged queue is left by the lane-wait part as the staged part leaves it. -/
theorem State.releaseService_staged (b : BlockNo) (s : State) :
    (s.releaseService b).pacer.staged = (s.stagedServed b).pacer.staged := by
  rw [State.releaseService_eq]
  exact repeatStep_keeps (P := fun t => t.pacer.staged = (s.stagedServed b).pacer.staged)
    (fun _ _ made kept => (State.laneWaitStep_staged made).trans kept) _ rfl

/-- Release service ends when the block cannot be debited or no truck waits for it. -/
theorem State.releaseService_ends (b : BlockNo) (s : State) :
    (s.releaseService b).canDebit b = false
      ∨ (s.releaseService b).StagedServed b ∧ ∀ e ∈ (s.releaseService b).pacer.laneWait, e.block ≠ b := by
  have stagedEnds : (s.stagedServed b).stagedStep b = none :=
    repeatStep_ends (State.stagedStep_falls b) List.countP_le_length
  have laneEnds : (s.releaseService b).laneWaitStep b = none := by
    rw [State.releaseService_eq]
    exact repeatStep_ends (State.laneWaitStep_falls b) List.countP_le_length
  rcases State.stagedStep_eq_none.mp stagedEnds with spent | served
  · have same : s.releaseService b = s.stagedServed b := by
      rw [State.releaseService_eq, repeatStep_none _ (State.laneWaitStep_eq_none.mpr (.inl spent))]
    exact .inl (by rw [same, spent])
  · refine (State.laneWaitStep_eq_none.mp laneEnds).imp_right fun none => ⟨?_, none⟩
    rw [State.StagedServed, State.releaseService_staged]
    exact served

theorem State.releaseService_idle (noStaged : s.stagedStep b = none) (noLaneWait : s.laneWaitStep b = none) :
    s.releaseService b = s := by
  have served : s.stagedServed b = s := repeatStep_none _ noStaged
  rw [State.releaseService_eq, served, repeatStep_none _ noLaneWait]

/-- Service goes on from the release of a staged entry. -/
theorem State.releaseService_stagedStep (made : s.stagedStep b = some t) : s.releaseService b = t.releaseService b := by
  have served : s.stagedServed b = t.stagedServed b :=
    repeatStep_unroll (State.stagedStep_falls b) made List.countP_le_length List.countP_le_length
  rw [State.releaseService_eq, State.releaseService_eq, served]

/-- Service goes on from the release of a lane-waiting visit, when no staged entry waits for the block. -/
theorem State.releaseService_laneWaitStep (served : s.StagedServed b) (made : s.laneWaitStep b = some t) :
    s.releaseService b = t.releaseService b := by
  have after : t.StagedServed b := by
    rw [State.StagedServed, State.laneWaitStep_staged made]
    exact served
  have same : s.stagedServed b = s := repeatStep_none _ (State.stagedStep_eq_none.mpr (.inr served))
  have sameAfter : t.stagedServed b = t := repeatStep_none _ (State.stagedStep_eq_none.mpr (.inr after))
  rw [State.releaseService_eq, State.releaseService_eq, same, sameAfter]
  exact repeatStep_unroll (State.laneWaitStep_falls b) made List.countP_le_length List.countP_le_length

/-- The visit of the first entry released has no unreleased entry afterwards. -/
theorem State.releaseService_releasedFor {e : StagedEntry} (can : s.canDebit b = true)
    (found : s.pacer.staged.find? (StagedEntry.waitsFor b) = some e) : (s.releaseService b).ReleasedFor e.visit := by
  have made : s.stagedStep b = some ((s.debit b).releaseStaged e b) :=
    State.stagedStep_eq_some.mpr ⟨can, e, found, rfl⟩
  rw [State.releaseService_stagedStep made, State.ReleasedFor, State.releaseService_staged]
  exact repeatStep_keeps (P := State.ReleasedFor e.visit) (fun _ _ => State.stagedStep_releasedFor) _
    (State.releaseStaged_releasedFor _ e b)

end Service

/-! ### Promotion (R142) -/

/-- The oldest lane-waiting visit taken off the list and sent to a row. -/
def State.promoteFirst (e : LaneWaitEntry) (rest : List LaneWaitEntry) (row : RowNo) (s : State) : State :=
  match (s.setLaneWait rest).findVisit e.visit with
  | some r => (s.setLaneWait rest).promoteTo row r
  | none => s.setLaneWait rest

/-- One promotion, while a visit waits and a row is free. -/
def State.promoteStep (s : State) : Option State :=
  match s.pacer.laneWait, s.freeRow? with
  | e :: rest, some row => some (s.promoteFirst e rest row)
  | _, _ => none

section Promotion

variable {s t : State} {e : LaneWaitEntry} {rest : List LaneWaitEntry} {row : RowNo}

theorem State.promoteStep_some (waits : s.pacer.laneWait = e :: rest) (free : s.freeRow? = some row) :
    s.promoteStep = some (s.promoteFirst e rest row) := by
  simp only [State.promoteStep, waits, free]

theorem State.promoteStep_eq_none : s.promoteStep = none ↔ s.pacer.laneWait = [] ∨ s.freeRow? = none := by
  cases waits : s.pacer.laneWait with
  | nil => simp [State.promoteStep, waits]
  | cons e rest =>
    cases free : s.freeRow? with
    | none => simp [State.promoteStep, free]
    | some row => simp [State.promoteStep_some waits free]

theorem State.promote_eq (k : Nat) (s : State) : State.promote k s = repeatStep State.promoteStep k s := by
  induction k generalizing s with
  | zero => rfl
  | succ k ih =>
    unfold State.promote
    split
    · next e rest row waits free =>
      rw [repeatStep_some k (State.promoteStep_some waits free)]
      unfold State.promoteFirst
      dsimp only
      cases found : (s.setLaneWait rest).findVisit e.visit with
      | none => exact ih _
      | some r => exact ih _
    · next none =>
      refine (repeatStep_none _ (State.promoteStep_eq_none.mpr ?_)).symm
      cases waits : s.pacer.laneWait with
      | nil => exact .inl rfl
      | cons e rest =>
        refine .inr (Option.eq_none_iff_forall_ne_some.mpr fun row free => ?_)
        exact none e rest row waits free

theorem State.promoteFirst_laneWait (s : State) (e : LaneWaitEntry) (rest : List LaneWaitEntry) (row : RowNo) :
    (s.promoteFirst e rest row).pacer.laneWait = rest := by
  unfold State.promoteFirst
  split
  · simp [State.promoteTo]
  · rfl

/-- Each promotion shortens the lane-wait list. -/
theorem State.promoteStep_falls (s t : State) (made : s.promoteStep = some t) :
    t.pacer.laneWait.length < s.pacer.laneWait.length := by
  cases waits : s.pacer.laneWait with
  | nil => simp [State.promoteStep_eq_none.mpr (.inl waits)] at made
  | cons e rest =>
    cases free : s.freeRow? with
    | none => simp [State.promoteStep_eq_none.mpr (.inr free)] at made
    | some row =>
      obtain rfl := Option.some_inj.mp ((State.promoteStep_some waits free).symm.trans made)
      rw [State.promoteFirst_laneWait]
      exact Nat.lt_succ_self _

/-- Promotion ends when no visit waits or no row is free. -/
theorem State.promoteAll_ends (s : State) : s.promoteAll.pacer.laneWait = [] ∨ s.promoteAll.freeRow? = none := by
  rw [← State.promoteStep_eq_none, State.promoteAll, State.promote_eq]
  exact repeatStep_ends (measure := fun t => t.pacer.laneWait.length) State.promoteStep_falls le_rfl

theorem State.promoteAll_idle (none : s.pacer.laneWait = [] ∨ s.freeRow? = none) : s.promoteAll = s := by
  rw [State.promoteAll, State.promote_eq, repeatStep_none _ (State.promoteStep_eq_none.mpr none)]

/-- Promotion goes on from the first visit sent to a row. -/
theorem State.promoteAll_first (waits : s.pacer.laneWait = e :: rest) (free : s.freeRow? = some row) :
    s.promoteAll = (s.promoteFirst e rest row).promoteAll := by
  rw [State.promoteAll, State.promoteAll, State.promote_eq, State.promote_eq]
  exact repeatStep_unroll (measure := fun t => t.pacer.laneWait.length) State.promoteStep_falls
    (State.promoteStep_some waits free) le_rfl le_rfl

theorem State.freeRow?_eq_none :
    s.freeRow? = none ↔ ∀ w : RowNo, w.val < s.mgmt.params.stagingRows → s.rowState w ≠ .free := by
  simp [State.freeRow?]

/-- The lowest free row within the staging rows is the one taken (R128). -/
theorem State.freeRow?_lowest (within : row.val < s.mgmt.params.stagingRows) (free : s.rowState row = .free)
    (lowest : ∀ i : RowNo, i < row → s.rowState i ≠ .free) : s.freeRow? = some row := by
  refine List.find?_eq_some_iff_getElem.mpr ⟨by simp [within, free], row.val, by simp, by simp, fun j below => ?_⟩
  have taken := lowest ⟨j, below.trans row.isLt⟩ below
  simp [taken]

end Promotion

/-! ### The states that the releases and the promotion go through -/

section States

variable {s : State} {b : BlockNo} {n : Nat} {r : RecNo}

theorem State.modNumbered_found (f : Visit → Visit) (found : s.findVisit n = some r) :
    s.modNumbered n f = s.modVisit r f := by
  simp only [State.modNumbered, found]

theorem State.findVisit_debit (s : State) (b : BlockNo) (n : Nat) : (s.debit b).findVisit n = s.findVisit n := by
  simp only [State.findVisit, State.visit, State.debit_asm]

/-- A visit is found under its number as long as it keeps that and stays in use. -/
theorem State.findVisit_modVisit {f : Visit → Visit} (number : (f (s.visit r)).number = (s.visit r).number)
    (inUse : ((f (s.visit r)).state != .free) = ((s.visit r).state != .free)) (n : Nat) :
    (s.modVisit r f).findVisit n = s.findVisit n := by
  unfold State.findVisit
  congr 1
  funext i
  by_cases own : i = r
  · rw [own, State.modVisit_visit_same, number, inUse]
  · rw [State.modVisit_visit_other f s own]

theorem State.modVisit_modVisit (f g : Visit → Visit) : (s.modVisit r f).modVisit r g = s.modVisit r (g ∘ f) := by
  simp [State.modVisit, updAt]

theorem State.modStaged_modStaged {f : StagedEntry → StagedEntry} (g : StagedEntry → StagedEntry)
    (same : ∀ x, (f x).visit = x.visit) : (s.modStaged n f).modStaged n g = s.modStaged n (g ∘ f) := by
  have entry : (fun x : StagedEntry => if x.visit = n then g x else x) ∘ (fun x => if x.visit = n then f x else x)
      = fun x => if x.visit = n then (g ∘ f) x else x := by
    funext x
    by_cases own : x.visit = n
    · simp [own, same]
    · simp [own]
  simp only [State.modStaged, State.setStaged, List.map_map, entry]

/-- The one entry of a visit changed. -/
theorem map_own_entry {a c : List StagedEntry} {e : StagedEntry} (f : StagedEntry → StagedEntry) (own : e.visit = n)
    (others : ∀ x ∈ a ++ c, x.visit ≠ n) :
    (a ++ e :: c).map (fun x => if x.visit = n then f x else x) = a ++ f e :: c := by
  have unchanged (q : List StagedEntry) (not : ∀ x ∈ q, x.visit ≠ n) :
      q.map (fun x => if x.visit = n then f x else x) = q :=
    (List.map_congr_left fun x listed => if_neg (not x listed)).trans (List.map_id q)
  rw [List.map_append, List.map_cons, if_pos own, unchanged a, unchanged c]
  · exact fun x listed => others x (List.mem_append_right a listed)
  · exact fun x listed => others x (List.mem_append_left c listed)

/-- Trucks of a row are directed at point 13, those of the bay at point 14 (R137). -/
theorem StagedAt.board_eq {x : StagedAt} {p : Point}
    (place : (∃ w, x = .row w) ∧ p = stagingBoard ∨ x = .bay ∧ p = inspectionBoard) : x.board = p := by
  rcases place with ⟨⟨w, rfl⟩, rfl⟩ | ⟨rfl, rfl⟩
  · rfl
  · rfl

/-- A staged entry released for a visit that a record carries (R137, steps 2 to 4). -/
theorem State.releaseStaged_found {e : StagedEntry} {p : Point} (found : s.findVisit e.visit = some r)
    (board : e.location.board = p) :
    s.releaseStaged e b = ((s.modStaged e.visit (fun x => { x with released := true })).modVisit r
      (fun v => { v with state := .releasing, finalDisposition := some .dispatched })).issueBoard e.visit p
      (proceed e.visit b) := by
  have same : (s.modStaged e.visit (fun x => { x with released := true })).findVisit e.visit = some r := found
  rw [State.releaseStaged, board, State.modNumbered_found _ same]

/-- A timed-out entry released through its alternate block (R140). -/
theorem State.serveAlternate_released {e : StagedEntry} {x : BlockNo} {p : Point}
    (entry : s.pacer.staged.find? (fun e => e.visit == n) = some e) (own : e.visit = n) (late : e.timedOut = true)
    (unreleased : e.released = false) (alternate : e.alternate = some x) (can : s.canDebit x = true)
    (found : s.findVisit n = some r) (board : e.location.board = p) :
    s.serveAlternate n =
      (((s.debit x).modStaged n (fun y => { y with block := x, alternate := none, released := true })).modVisit r
        (fun v => { v with dispatch := some x, alternate := none, state := .releasing,
                           finalDisposition := some .dispatched })).issueBoard n p (proceed n x) := by
  subst own
  have first : ((s.debit x).modStaged e.visit (fun y => { y with block := x, alternate := none })).findVisit e.visit
      = some r := (s.findVisit_debit x e.visit).trans found
  simp only [State.serveAlternate, entry, late, unreleased, alternate, can, if_true, Bool.not_false, Bool.and_self]
  have second : (((s.debit x).modStaged e.visit (fun y => { y with block := x, alternate := none })).modVisit r
      (fun v => { v with dispatch := some x, alternate := none })).findVisit e.visit = some r := by
    rw [State.findVisit_modVisit rfl rfl, first]
  rw [State.modNumbered_found _ first, State.releaseStaged_found second board]
  have staged := (s.debit x).modStaged_modStaged (n := e.visit) (f := fun y => { y with block := x, alternate := none })
    (fun y => { y with released := true }) (fun _ => rfl)
  have visit (t : State) := t.modVisit_modVisit (r := r) (fun v => { v with dispatch := some x, alternate := none })
    (fun v => { v with state := .releasing, finalDisposition := some .dispatched })
  exact congrArg _ ((visit _).trans (congrArg _ staged))

end States

/-! ### CreditGoesToTheWaiters -/

section Steps

variable {s : State} {b : BlockNo} {r : RecNo}

/-- The oldest unreleased entry for a block, by its place in the queue. -/
theorem find_waitsFor {a c : List StagedEntry} {e : StagedEntry} (before : ∀ x ∈ a, x.block = b → x.released = true)
    (own : e.block = b) (unreleased : e.released = false) :
    (a ++ e :: c).find? (StagedEntry.waitsFor b) = some e := by
  refine List.find?_eq_some_iff_append.mpr ⟨StagedEntry.waitsFor_iff.mpr ⟨own, unreleased⟩, a, c, rfl,
    fun x listed => ?_⟩
  simpa [StagedEntry.waitsFor] using imp_iff_not_or.mp (before x listed)

/-- The release of the oldest staged entry, the state written out (R137). -/
theorem State.releaseService_releasesStaged {a c : List StagedEntry} {e : StagedEntry} {p : Point}
    (can : s.canDebit b = true) (staged : s.pacer.staged = a ++ e :: c)
    (before : ∀ x ∈ a, x.block = b → x.released = true) (own : e.block = b) (unreleased : e.released = false)
    (found : s.findVisit e.visit = some r) (board : e.location.board = p) :
    s.releaseService b = State.releaseService b (State.issueBoard e.visit p (proceed e.visit b)
      { s.debit b with
        asm := { s.asm with visits := s.asm.visits.set r.val { s.visit r with
          state := .releasing, finalDisposition := some .dispatched } }
        pacer := { (s.debit b).pacer with
          staged := s.pacer.staged.map
            (fun x => if x.visit = e.visit then { x with released := true } else x) } }) := by
  have oldest : s.pacer.staged.find? (StagedEntry.waitsFor b) = some e := by
    rw [staged]
    exact find_waitsFor before own unreleased
  have debited : (s.debit b).findVisit e.visit = some r := (s.findVisit_debit b e.visit).trans found
  have released := State.releaseStaged_found (b := b) debited board
  rw [State.releaseService_stagedStep (State.stagedStep_eq_some.mpr ⟨can, e, oldest, rfl⟩), released]
  simp only [State.modVisit, State.modStaged, State.setStaged, State.debit_asm, State.debit_staged]
  rfl

/-- The release of the oldest lane-waiting visit, the state written out (R138). -/
theorem State.releaseService_releasesLaneWaiting {a c : List LaneWaitEntry} {e : LaneWaitEntry}
    (can : s.canDebit b = true) (served : s.StagedServed b) (waiting : s.pacer.laneWait = a ++ e :: c)
    (before : ∀ x ∈ a, x.block ≠ b) (own : e.block = b) (found : s.findVisit e.visit = some r) :
    s.releaseService b = State.releaseService b (State.issueLane e.visit (s.visit r).lane (proceed e.visit b)
      { s.debit b with
        asm := { s.asm with visits := s.asm.visits.set r.val { s.visit r with
          disposition := some .dispatched, state := .directing } }
        pacer := { (s.debit b).pacer with
          laneWait := s.pacer.laneWait.filter (fun x => x.visit ≠ e.visit) } }) := by
  have oldest : s.pacer.laneWait.find? (fun e => e.block == b) = some e := by
    rw [waiting]
    exact List.find?_eq_some_iff_append.mpr ⟨by simp [own], a, c, rfl, fun x listed => by simp [before x listed]⟩
  have debited : (s.debit b).findVisit e.visit = some r := (s.findVisit_debit b e.visit).trans found
  have others : (fun x : LaneWaitEntry => x.visit != e.visit) = fun x => decide (x.visit ≠ e.visit) := by
    funext x
    rw [bne, beq_eq_decide, decide_not]
  rw [State.releaseService_laneWaitStep served (State.laneWaitStep_eq_some.mpr ⟨can, e, oldest, rfl⟩)]
  have stillFound : ((s.debit b).setLaneWait (s.pacer.laneWait.filter (fun x => x.visit != e.visit))).findVisit e.visit
      = some r := debited
  simp only [State.releaseLaneWaiting, stillFound]
  simp only [others, State.modVisit, State.setLaneWait, State.visit, State.debit_asm]
  rfl

theorem find_own_entry {n : Nat} {a c : List StagedEntry} {e : StagedEntry} (own : e.visit = n)
    (others : ∀ x ∈ a ++ c, x.visit ≠ n) : (a ++ e :: c).find? (fun x => x.visit == n) = some e :=
  List.find?_eq_some_iff_append.mpr
    ⟨by simp [own], a, c, rfl, fun x listed => by simp [others x (List.mem_append_left c listed)]⟩

theorem State.serveAlternate_absent {n : Nat} (absent : ∀ e ∈ s.pacer.staged, e.visit ≠ n) :
    s.serveAlternate n = s := by
  have none : s.pacer.staged.find? (fun e => e.visit == n) = none := by simpa using absent
  simp only [State.serveAlternate, none]

/-- An entry stays as it is that is not timed out, is released, or has no alternate block that can be debited. -/
theorem State.serveAlternate_idle {n : Nat} {e : StagedEntry}
    (entry : s.pacer.staged.find? (fun e => e.visit == n) = some e)
    (idle : e.timedOut = false ∨ e.released = true ∨ e.alternate = none
      ∨ ∃ x, e.alternate = some x ∧ s.canDebit x = false) : s.serveAlternate n = s := by
  rcases idle with early | released | none | ⟨x, alternate, spent⟩
  · simp [State.serveAlternate, entry, early]
  · simp [State.serveAlternate, entry, released]
  · simp [State.serveAlternate, entry, none]
  · simp [State.serveAlternate, entry, alternate, spent]

/-- The release through the alternate block, the state written out (R140). -/
theorem State.serveAlternate_releases {n : Nat} {a c : List StagedEntry} {e : StagedEntry} {x : BlockNo} {p : Point}
    (staged : s.pacer.staged = a ++ e :: c) (own : e.visit = n) (others : ∀ y ∈ a ++ c, y.visit ≠ n)
    (late : e.timedOut = true) (unreleased : e.released = false) (alternate : e.alternate = some x)
    (can : s.canDebit x = true) (found : s.findVisit n = some r) (board : e.location.board = p) :
    s.serveAlternate n = State.issueBoard n p (proceed n x)
      { s.debit x with
        asm := { s.asm with visits := s.asm.visits.set r.val { s.visit r with
          dispatch := some x, alternate := none, state := .releasing, finalDisposition := some .dispatched } }
        pacer := { (s.debit x).pacer with
          staged := a ++ { e with block := x, alternate := none, released := true } :: c } } := by
  have entry := find_own_entry own others
  rw [← staged] at entry
  have queue := map_own_entry (fun y => { y with block := x, alternate := none, released := true }) own others
  rw [State.serveAlternate_released entry own late unreleased alternate can found board]
  simp only [State.modVisit, State.modStaged, State.setStaged, State.debit_asm, State.debit_staged, staged, queue]
  rfl

/-- The first promotion, the state written out (R142). -/
theorem State.promoteAll_promotes {e : LaneWaitEntry} {rest : List LaneWaitEntry} {w : RowNo}
    (waits : s.pacer.laneWait = e :: rest) (free : s.freeRow? = some w) (found : s.findVisit e.visit = some r) :
    s.promoteAll = State.promoteAll (State.issueLane e.visit (s.visit r).lane
      { kind := .stage, visit := some e.visit, row := some w }
      { s with
        asm := { s.asm with visits := s.asm.visits.set r.val { s.visit r with
          row := some w, disposition := some .staged, state := .directing } }
        pacer := { s.pacer with rows := s.pacer.rows.set w.val (.reserved e.visit), laneWait := rest } }) := by
  have stillFound : (s.setLaneWait rest).findVisit e.visit = some r := found
  have number : (s.visit r).number = e.visit := (State.findVisit_some found).1
  rw [State.promoteAll_first waits free, State.promoteFirst]
  simp only [stillFound]
  rw [← number]
  rfl

end Steps

/-- Settles O39: the debit by the missing-report test; release service and promotion as repetitions that end and that go
on from their first step; the alternate by what its entry is. -/
theorem creditGoesToTheWaiters : Obligations.CreditGoesToTheWaiters := by
  unfold Obligations.CreditGoesToTheWaiters
  refine ⟨?_, fun s b => ⟨?_, s.promoteAll_ends, ?_⟩, ?_, ?_, ?_⟩
  · rintro s b x n rfl rfl
    have count : min ((s.block b).dsf + 1) 65535 = satInc max16 (s.block b).dsf := by rw [satInc, max16]
    have missing := (s.block b).missingReport_debited
    rw [count]
    refine ⟨fun few => ?_, fun limited many => ?_⟩
    · rw [State.debit_reported (eq_false_of_ne_true fun reaches => ?_), YardBlock.debited_eq]
      · rfl
      · obtain ⟨limited, many⟩ := missing.mp reaches
        omega
    · rw [State.debit_missed (missing.mpr ⟨limited, many⟩), YardBlock.debited_missed_eq]
      rfl
  · rintro t rfl
    exact s.releaseService_ends b
  · rintro e q can first rfl
    exact State.releaseService_releasedFor can first
  · intro s b debitable debitableIs
    rw [← State.canDebit_iff] at debitableIs
    obtain rfl : debitable = (s.canDebit b = true) := propext debitableIs
    refine ⟨?_, ?_, ?_⟩
    · rintro (spent | ⟨served, none⟩)
      · have cannot : s.canDebit b = false := eq_false_of_ne_true spent
        exact State.releaseService_idle (State.stagedStep_eq_none.mpr (.inl cannot))
          (State.laneWaitStep_eq_none.mpr (.inl cannot))
      · exact State.releaseService_idle (State.stagedStep_eq_none.mpr (.inr served))
          (State.laneWaitStep_eq_none.mpr (.inr none))
    · intro a e c r p can staged before own unreleased found place
      exact State.releaseService_releasesStaged can staged before own unreleased found (StagedAt.board_eq place)
    · intro a e c r can served waiting before own found
      exact State.releaseService_releasesLaneWaiting can served waiting before own found
  · intro s n
    refine ⟨State.serveAlternate_absent, fun a e c staged own others => ⟨?_, ?_⟩⟩
    · have entry := find_own_entry own others
      rw [← staged] at entry
      refine fun idle => State.serveAlternate_idle entry (idle.imp_right (Or.imp_right (Or.imp_right ?_)))
      exact fun ⟨x, alternate, spent⟩ => ⟨x, alternate, State.canDebit_eq_false_iff.mpr spent⟩
    · intro x r p late unreleased alternate active credit found place
      exact State.serveAlternate_releases staged own others late unreleased alternate
        (State.canDebit_iff.mpr ⟨active, credit⟩) found (StagedAt.board_eq place)
  · intro s
    refine ⟨fun none => State.promoteAll_idle (none.imp_right State.freeRow?_eq_none.mpr), ?_⟩
    intro e rest r w waits within free lowest found
    exact State.promoteAll_promotes waits (State.freeRow?_lowest within free lowest) found

end Sys2Proof.Machine
end

section
/-! Proofs: what a direction at point 13 or 14 and a dispatch request from the bay leave of the request queue, and the
requests that release and reject a held visit. -/

namespace Sys2Proof.Machine

open Sys2Proof

/-! ### Hand-ons and directions at points 13 and 14 leave the request queue (R141, R149, R154, R174) -/

section Board

variable (s : State)

/-- What the watch matcher and the lane points keep includes the request queue. -/
theorem State.requests_of_mergeKept {s t : State} (kept : t.mergeKept = s.mergeKept) : t.mgmt.queue = s.mgmt.queue :=
  congrArg (fun k => k.mgmt.queue) kept

theorem State.placeReport_requests (r : RecNo) : (s.placeReport r).mgmt.queue = s.mgmt.queue := by
  unfold State.placeReport State.raiseLevel
  dsimp only
  split
  · exact State.raise_queue_mgmt _ _
  · rfl

theorem State.enterReporting_requests (r : RecNo) : (s.enterReporting r).mgmt.queue = s.mgmt.queue := by
  unfold State.enterReporting
  dsimp only
  split
  · exact State.placeReport_requests _ r
  · rfl

theorem State.promoteAll_requests : s.promoteAll.mgmt.queue = s.mgmt.queue :=
  State.promote_keeps (P := fun t => t.mgmt.queue = s.mgmt.queue) (fun _ _ kept => kept)
    (fun _ _ _ kept => (State.requests_of_mergeKept (State.issueLane_mergeKept _ _ _ _)).trans kept) _ rfl

theorem State.releaseDone_requests (v : Nat) : (s.releaseDone v).mgmt.queue = s.mgmt.queue := by
  unfold State.releaseDone
  split
  · rfl
  · dsimp only
    split
    · rfl
    · exact State.promoteAll_requests _

theorem boardHandOn_requests (p : Point) (d : Direction) : (boardHandOn p d s).mgmt.queue = s.mgmt.queue := by
  unfold boardHandOn
  split
  · rfl
  · split
    · rfl
    · split
      · rw [State.enterReporting_requests, State.releaseDone_requests]
        rfl
      · rfl

/-- The test of R151 at point 13 or 14 sends, retires and hands on, and takes no request meanwhile. -/
theorem State.serveBoard_requests (p : Point) : (s.serveBoard p).mgmt.queue = s.mgmt.queue := by
  unfold State.serveBoard
  apply State.servePoint_keeps (P := fun t => t.mgmt.queue = s.mgmt.queue)
  case sendUrgent => exact fun _ _ _ kept => kept
  case sendHead => exact fun _ _ _ kept => kept
  case retireUrgent => exact fun t d kept => (State.unconfirmed_requests d _).trans kept
  case retireHead =>
    intro t d kept
    rw [boardHandOn_requests, State.unconfirmed_requests, State.headLeaves_mgmt, kept]
  case hs => rfl

theorem State.issueBoard_requests (v : Nat) (p : Point) (d : Direction) :
    (s.issueBoard v p d).mgmt.queue = s.mgmt.queue := by
  rw [State.issueBoard, State.serveBoard_requests]
  exact State.requests_of_mergeKept (s.enterDirection_mergeKept v p d)

end Board

/-! ### A dispatch request from the bay leaves the request queue (R126 to R128) -/

section Bay

variable (s : State)

theorem State.debit_requests (b : BlockNo) : (s.debit b).mgmt.queue = s.mgmt.queue := by
  obtain ⟨x, changed | changed⟩ := s.debit_cases b
  · rw [changed]
    rfl
  · rw [changed, State.raise_queue_mgmt]
    rfl

theorem State.dispatchTo_bay_requests (r : RecNo) (b : BlockNo) (viaAlternate : Bool) :
    (s.dispatchTo r b viaAlternate .bay).mgmt.queue = s.mgmt.queue := by
  rw [State.dispatchTo, State.issueBoard_requests]
  exact s.debit_requests b

theorem State.stageAtBay_requests (r : RecNo) : (s.stageAtBay r).mgmt.queue = s.mgmt.queue := by
  unfold State.stageAtBay
  dsimp only
  split <;> rfl

theorem State.dispatchRequest_bay_requests (r : RecNo) :
    (s.dispatchRequest r .bay).1.mgmt.queue = s.mgmt.queue := by
  unfold State.dispatchRequest
  split
  · simp only [State.dispatchTo_bay_requests]
  · split
    · simp only [State.dispatchTo_bay_requests]
    · simp only [State.stageAtBay_requests]

end Bay

/-! ### VISIT_RELEASE and VISIT_REJECT (R145, R146) -/

section Release

variable {s : State} {n : Nat} {b : Option Nat} {c : Option BlockNo} {r : RecNo}

theorem releaseBlock?_outOfRange {x : Nat} (range : x = 0 ∨ 32 < x) : releaseBlock? (some x) = none := by
  simp only [releaseBlock?, place_none range, Option.map_none]

theorem releaseBlock?_succ (k : BlockNo) : releaseBlock? (some (k.val + 1)) = some (some k) := by
  simp only [releaseBlock?, place_succ k, Option.map_some]

/-- A release block within 1 to 32, or an absent one, is read. -/
theorem releaseBlock?_inRange (range : ∀ x, b = some x → 1 ≤ x ∧ x ≤ 32) : ∃ c, releaseBlock? b = some c := by
  cases b with
  | none => exact ⟨none, rfl⟩
  | some x =>
    obtain ⟨low, high⟩ := range x rfl
    obtain ⟨i, rfl⟩ := Nat.exists_eq_add_of_le' low
    exact ⟨_, releaseBlock?_succ ⟨i, high⟩⟩

theorem State.visitRelease_badFields (bad : n = 0 ∨ ∃ x, b = some x ∧ (x = 0 ∨ 32 < x)) :
    s.visitRelease n b = refuse .badRecord s := by
  unfold State.visitRelease
  rcases bad with zero | ⟨x, rfl, range⟩
  · split
    · rfl
    · rw [if_pos zero]
  · rw [releaseBlock?_outOfRange range]

theorem State.visitRelease_notFound (block : releaseBlock? b = some c) (nonzero : n ≠ 0)
    (absent : s.findVisit n = none) : s.visitRelease n b = refuse .notFound s := by
  simp only [State.visitRelease, block, if_neg nonzero, absent]

/-- The tests that follow once the visit is found: its state, then that there is a block to release it to. -/
theorem State.visitRelease_found (block : releaseBlock? b = some c) (nonzero : n ≠ 0)
    (found : s.findVisit n = some r) :
    s.visitRelease n b =
      if (s.visit r).state ≠ .held then refuse .wrongState s
      else if c.isNone && (s.visit r).dispatch.isNone then refuse .badRecord s
      else s.releaseHeld r c := by
  simp only [State.visitRelease, block, if_neg nonzero, found]

/-- A HELD visit without a dispatch block needs a release block. -/
theorem State.visitRelease_noBlock (nonzero : n ≠ 0) (found : s.findVisit n = some r)
    (held : (s.visit r).state = .held) (noBlock : (s.visit r).dispatch = none) :
    s.visitRelease n none = refuse .badRecord s := by
  rw [State.visitRelease_found rfl nonzero found, if_neg (not_not.mpr held), noBlock]
  rfl

/-- A HELD visit goes to dispatch when a release block is given or its own stands. -/
theorem State.visitRelease_held (block : releaseBlock? b = some c) (nonzero : n ≠ 0)
    (found : s.findVisit n = some r) (held : (s.visit r).state = .held)
    (target : c ≠ none ∨ (s.visit r).dispatch ≠ none) : s.visitRelease n b = s.releaseHeld r c := by
  have blocked : ¬ (c.isNone && (s.visit r).dispatch.isNone) = true := by
    rw [Bool.and_eq_true, Option.isNone_iff_eq_none, Option.isNone_iff_eq_none, not_and_or]
    exact target
  rw [State.visitRelease_found block nonzero found, if_neg (not_not.mpr held), if_neg blocked]

theorem State.visitReject_notFound (nonzero : n ≠ 0) (absent : s.findVisit n = none) :
    s.visitReject n = refuse .notFound s := by
  simp only [State.visitReject, if_neg nonzero, absent]

theorem State.visitReject_found (nonzero : n ≠ 0) (found : s.findVisit n = some r) :
    s.visitReject n = if (s.visit r).state = .held then granted (s.rejectHeld r) else refuse .wrongState s := by
  simp only [State.visitReject, if_neg nonzero, found]

variable {tag : Nat} {rest : List Request}

theorem exec_visitRelease_of_takes (h : s.takes tag (.visitRelease n b) rest) :
    exec .visitRelease s = done (answer tag 26 ((s.taken rest).visitRelease n b)) := by
  show execVisitRelease s = _
  rw [execVisitRelease, State.takes_next h]
  rfl

theorem exec_visitReject_of_takes (h : s.takes tag (.visitReject n) rest) :
    exec .visitReject s = done (answer tag 27 ((s.taken rest).visitReject n)) := by
  show execVisitReject s = _
  rw [execVisitReject, State.takes_next h]
  rfl

end Release

/-- Settles O47: by the tests in their order; the dispatch request and the TURN_BACK leave the request queue, so that the
response goes out from the queue's rest. -/
theorem heldVisitsAreReleasedOrRejected : Obligations.HeldVisitsAreReleasedOrRejected := by
  unfold Obligations.HeldVisitsAreReleasedOrRejected
  rintro s _ tag n rest rfl
  refine ⟨fun b takes => ?_, fun takes => ?_⟩
  · rw [exec_visitRelease_of_takes takes]
    refine ⟨fun bad => done_read 26 (State.visitRelease_badFields bad), fun nonzero range => ?_⟩
    obtain ⟨c, block⟩ := releaseBlock?_inRange range
    refine ⟨fun absent => done_read 26 (State.visitRelease_notFound block nonzero absent), fun r found => ?_⟩
    have tested := State.visitRelease_found (s := s.taken rest) block nonzero found
    refine ⟨fun other => done_read 26 (tested.trans (if_pos other)), ?_, ?_⟩
    · rintro held rfl noBlock
      exact done_read 26 (State.visitRelease_noBlock nonzero found held noBlock)
    · rintro t held (⟨rfl, own, rfl⟩ | ⟨k, rfl, rfl⟩)
      · have released := State.visitRelease_held (s := s.taken rest) (b := none) rfl nonzero found held (.inr own)
        exact done_answer 26 released (State.dispatchRequest_bay_requests _ r)
      · have released := State.visitRelease_held (s := s.taken rest) (releaseBlock?_succ k) nonzero found held
          (.inl (Option.some_ne_none k))
        exact done_answer 26 released (State.dispatchRequest_bay_requests _ r)
  · rw [exec_visitReject_of_takes takes]
    refine ⟨fun zero => done_read 27 (if_pos zero),
      fun nonzero absent => done_read 27 (State.visitReject_notFound nonzero absent), fun r nonzero found => ?_⟩
    have tested := State.visitReject_found (s := s.taken rest) nonzero found
    refine ⟨fun other => done_read 27 (tested.trans (if_neg other)), fun held => ?_⟩
    exact done_answer 27 (tested.trans (if_pos held)) (State.issueBoard_requests _ _ _ _)

end Sys2Proof.Machine
end

section
/-! Proofs: the test of R151 at a point, case by case; the urgents of R155; and the request that sends one (R157). -/

namespace Sys2Proof.Machine

open Sys2Proof

/-! ### A point changed twice, and the marks of a retirement -/

theorem State.modPoint_modPoint (s : State) (p : Point) (f g : PointState → PointState) :
    (s.modPoint p f).modPoint p g = s.modPoint p (g ∘ f) := by
  simp [State.modPoint, updAt]

/-- A point changed into what it already holds. -/
theorem State.modPoint_fixed {s : State} {p : Point} {f : PointState → PointState}
    (fixed : f (s.point p) = s.point p) : s.modPoint p f = s := by
  have same : updAt s.engine.points p f = s.engine.points := by
    rw [updAt_eq_set, show f s.engine.points[p] = s.engine.points[p.val] from fixed]
    exact Vector.set_getElem_self p.isLt
  rw [State.modPoint, same]

@[simp] theorem State.unconfirmed_point (s : State) (d : Direction) (p : Point) :
    (s.unconfirmed d).point p = s.point p := by
  unfold State.unconfirmed
  dsimp only
  split
  · exact s.raise_point _ p
  · split <;> exact s.raise_point _ p

/-! ### The cases of the test at a point (R151) -/

section Serving

variable {hand : HandOn} {p : Point} {s : State} {d : Direction}

theorem State.servePoint_inDisplay {x : Direction × Bool} (k : Nat) (shown : (s.point p).displayed? = some x) :
    State.servePoint hand p k s = s := by
  cases k <;> simp only [State.servePoint, shown]

theorem State.servePoint_idle (k : Nat) (urgent : (s.point p).urgent = .empty) (queue : (s.point p).queue = []) :
    State.servePoint hand p k s = s := by
  cases k with
  | zero => rfl
  | succ k =>
    have shown : (s.point p).displayed? = none := by simp only [PointState.displayed?, urgent, queue]
    simp only [State.servePoint, shown, urgent, queue]

theorem State.servePoint_sendsUrgent {st : Nat} (k : Nat) (shown : (s.point p).displayed? = none)
    (urgent : (s.point p).urgent = .ready d) (station : s.displayStation p = some st) :
    State.servePoint hand p (k + 1) s = (s.showUrgent p d).sendFrom p st d true := by
  simp only [State.servePoint, shown, urgent, station]

theorem State.servePoint_retiresUrgent (k : Nat) (shown : (s.point p).displayed? = none)
    (urgent : (s.point p).urgent = .ready d) (station : s.displayStation p = none) :
    State.servePoint hand p (k + 1) s = State.servePoint hand p k ((s.urgentLeaves p).unconfirmed d) := by
  simp only [State.servePoint, shown, urgent, station]

/-- At every point the test is the one loop, with the hand-on of its kind of point and at least one repetition. -/
theorem State.serve_eq_servePoint (p : Point) (s : State) :
    ∃ (hand : HandOn) (k : Nat), s.serve p = State.servePoint hand p (k + 1) s := by
  unfold State.serve
  split
  · exact ⟨laneHandOn, (s.point p).queue.length + s.engine.pendings.length + 2, rfl⟩
  · exact ⟨boardHandOn, (s.point p).queue.length + s.engine.pendings.length + 2, rfl⟩

/-- The test sends, retires and hands on, and takes no request meanwhile. -/
theorem State.serve_requests (p : Point) (s : State) : (s.serve p).mgmt.queue = s.mgmt.queue := by
  unfold State.serve
  split
  · exact s.serveLane_requests p
  · exact s.serveBoard_requests p

end Serving

/-! ### An urgent placed at a point (R155) -/

/-- The urgent slot becomes READY. -/
def State.readyUrgent (p : Point) (d : Direction) (s : State) : State :=
  s.modPoint p (fun q => { q with urgent := .ready d })

section Placing

variable {s : State} {p : Point} {f : Direction} (d : Direction)

@[simp] theorem State.readyUrgent_point (s : State) (p : Point) :
    (s.readyUrgent p d).point p = { s.point p with urgent := .ready d } :=
  s.modPoint_point_same p _

/-- A READY urgent is not in display, so that the queue decides what is, as with the slot EMPTY. -/
theorem State.readyUrgent_displayed? (empty : (s.point p).urgent = .empty) :
    ((s.readyUrgent p d).point p).displayed? = (s.point p).displayed? := by
  simp only [State.readyUrgent_point, PointState.displayed?, empty]

theorem State.readyUrgent_urgent (s : State) (p : Point) : ((s.readyUrgent p d).point p).urgent = .ready d := by
  rw [State.readyUrgent_point]

theorem State.placeUrgent_empty (empty : (s.point p).urgent = .empty) :
    s.placeUrgent p d = ((s.readyUrgent p d).serve p, .becameReady) := by
  simp only [State.placeUrgent, empty, State.readyUrgent]

theorem State.placeUrgent_ready (ready : (s.point p).urgent = .ready f) :
    s.placeUrgent p d = ((s.readyUrgent p d).count .urgentReplacements, .replaced) := by
  simp only [State.placeUrgent, ready, State.readyUrgent]

theorem State.placeUrgent_inDisplay (shown : (s.point p).urgent = .inDisplay f) :
    s.placeUrgent p d =
      ((if (s.point p).follow = none then id else State.count .urgentReplacements)
        (s.modPoint p (fun q => { q with follow := some d })), .toFollow) := by
  simp only [State.placeUrgent, shown]
  cases follow : (s.point p).follow <;> simp

/-- A READY urgent waits for the message in display. -/
theorem State.serve_readyUrgent_waits {x : Direction × Bool} (empty : (s.point p).urgent = .empty)
    (shown : (s.point p).displayed? = some x) : (s.readyUrgent p d).serve p = s.readyUrgent p d := by
  obtain ⟨hand, k, served⟩ := (s.readyUrgent p d).serve_eq_servePoint p
  rw [served]
  exact State.servePoint_inDisplay _ ((State.readyUrgent_displayed? d empty).trans shown)

/-- The slot passes from EMPTY over READY to IN_DISPLAY within one step. -/
theorem State.serve_readyUrgent_sent {st : Nat} (empty : (s.point p).urgent = .empty)
    (shown : (s.point p).displayed? = none) (station : s.displayStation p = some st) :
    (s.readyUrgent p d).serve p = State.placeLane ⟨true, .direction st p d (s.point p).sequence⟩
      (s.modPoint p (fun q => { q with
        urgent := .inDisplay d, sequence := (q.sequence + 1) % 256, displaySequence := some q.sequence
        resendCount := 0, resendCountdown := some s.mgmt.params.resendInterval })) := by
  obtain ⟨hand, k, served⟩ := (s.readyUrgent p d).serve_eq_servePoint p
  have nothing := (State.readyUrgent_displayed? d empty).trans shown
  rw [served, State.servePoint_sendsUrgent k nothing (State.readyUrgent_urgent d s p) station]
  simp only [State.sendFrom, State.showUrgent, State.modPoint_point_same, State.readyUrgent_point]
  rw [State.readyUrgent, State.modPoint_modPoint, State.modPoint_modPoint]
  rfl

/-- Without a display station the slot is EMPTY again, and the point, with nothing else to send, is as it was. -/
theorem State.serve_readyUrgent_retired (empty : (s.point p).urgent = .empty)
    (shown : (s.point p).displayed? = none) (station : s.displayStation p = none)
    (follow : (s.point p).follow = none) (queue : (s.point p).queue = []) :
    (s.readyUrgent p d).serve p = s.unconfirmed d := by
  obtain ⟨hand, k, served⟩ := (s.readyUrgent p d).serve_eq_servePoint p
  have nothing := (State.readyUrgent_displayed? d empty).trans shown
  have left : (s.readyUrgent p d).urgentLeaves p = s := by
    rw [State.urgentLeaves, State.readyUrgent, State.modPoint_modPoint]
    refine State.modPoint_fixed ?_
    simp only [Function.comp_apply, follow]
    rw [← empty, ← follow]
  rw [served, State.servePoint_retiresUrgent k nothing (State.readyUrgent_urgent d s p) station, left]
  refine State.servePoint_idle k ?_ ?_
  · rw [State.unconfirmed_point, empty]
  · rw [State.unconfirmed_point, queue]

/-- An urgent placed at any point leaves the request queue as it is. -/
theorem State.placeUrgent_requests (p : Point) (d : Direction) (s : State) :
    (s.placeUrgent p d).1.mgmt.queue = s.mgmt.queue := by
  unfold State.placeUrgent
  split
  · exact State.serve_requests p _
  · rfl
  · dsimp only
    split <;> rfl

end Placing

/-! ### The fields of SEND_URGENT (R157) -/

theorem directionKind?_wire (k : DirectionKind) : directionKind? k.wire = some k := by
  cases k <;> rfl

theorem directionKind?_outOfRange {k : Nat} (range : k = 0 ∨ 9 < k) : directionKind? k = none := by
  unfold directionKind?
  iterate 9 rw [if_neg (by omega)]

theorem optionalPlace?_numberOf {k : Nat} (i : Option (Fin k)) : optionalPlace? k (i.map numberOf) = some i := by
  cases i with
  | none => rfl
  | some i => exact congrArg (Option.map some) (place_succ i)

theorem optionalPlace?_outOfRange {k x : Nat} (range : x = 0 ∨ k < x) : optionalPlace? k (some x) = none := by
  simp only [optionalPlace?, place_none range, Option.map_none]

section Fields

variable {k m : Nat} {v b r : Option Nat}

/-- A field outside its range gives no direction, whatever the fields before it hold. -/
theorem urgentDirection?_outOfRange
    (bad : k = 0 ∨ 9 < k ∨ 255 < m ∨ (∃ x, v = some x ∧ (x = 0 ∨ 65535 < x))
      ∨ (∃ x, b = some x ∧ (x = 0 ∨ 32 < x)) ∨ (∃ x, r = some x ∧ (x = 0 ∨ 24 < x))) :
    urgentDirection? k m v b r = none := by
  rw [← or_assoc] at bad
  unfold urgentDirection?
  rcases bad with kind | template | ⟨x, rfl, visit⟩ | ⟨x, rfl, block⟩ | ⟨x, rfl, row⟩
  · simp [directionKind?_outOfRange kind]
  · simp [Nat.not_le.mpr template]
  · have range : ¬ (1 ≤ x ∧ x ≤ 65535) := by omega
    simp [range]
  · cases v <;> simp [optionalPlace?_outOfRange block]
  · cases v <;> simp [optionalPlace?_outOfRange row]

/-- The fields of a direction are read back as that direction. -/
theorem urgentDirection?_of_fields (d : Direction) (template : d.template ≤ 255)
    (visit : ∀ x, d.visit = some x → 1 ≤ x ∧ x ≤ 65535) :
    urgentDirection? d.kind.wire d.template d.visit (d.block.map numberOf) (d.row.map numberOf) = some d := by
  obtain ⟨kind, number, block, row, code⟩ := d
  unfold urgentDirection?
  simp only at template visit
  cases number with
  | none => simp [directionKind?_wire, optionalPlace?_numberOf, template]
  | some x => simp [directionKind?_wire, optionalPlace?_numberOf, template, visit x rfl]

end Fields

section Taken

variable {s : State} {tag n k m : Nat} {v b r : Option Nat} {rest : List Request}

theorem State.sendUrgent_badIndex (range : n = 0 ∨ 14 < n) : s.sendUrgent n k m v b r = refuse .badIndex s := by
  simp only [State.sendUrgent, place_none range]

theorem State.sendUrgent_badRecord (p : Point) (bad : urgentDirection? k m v b r = none) :
    s.sendUrgent (p.val + 1) k m v b r = refuse .badRecord s := by
  simp only [State.sendUrgent, place_succ p, bad]

theorem State.sendUrgent_placed (p : Point) {d : Direction} (read : urgentDirection? k m v b r = some d) :
    s.sendUrgent (p.val + 1) k m v b r = granted (s.placeUrgent p d).1 (.urgent (s.placeUrgent p d).2) := by
  simp only [State.sendUrgent, place_succ p, read]

theorem exec_sendUrgent_of_takes (h : s.takes tag (.sendUrgent n k m v b r) rest) :
    exec .sendUrgent s = done (answer tag 28 ((s.taken rest).sendUrgent n k m v b r)) := by
  show execSendUrgent s = _
  rw [execSendUrgent, State.takes_next h]
  rfl

end Taken

/-- Settles O28: by what the slot holds, and in the EMPTY slot by the cases of the point's test; the request by its
fields, the placing leaving the request queue, so that the response goes out from the queue's rest. -/
theorem urgentsTakeTheSlot : Obligations.UrgentsTakeTheSlot := by
  unfold Obligations.UrgentsTakeTheSlot
  refine ⟨fun s p d => ⟨fun _ => State.placeUrgent_ready d, fun _ => State.placeUrgent_inDisplay d,
    fun empty => ?_⟩, ?_⟩
  · rw [State.placeUrgent_empty d empty]
    refine ⟨fun x shown => ?_, fun shown => ⟨fun st station => ?_, fun station follow queue => ?_⟩⟩
    · rw [State.serve_readyUrgent_waits d empty shown]
      rfl
    · rw [State.serve_readyUrgent_sent d empty shown station]
      rfl
    · rw [State.serve_readyUrgent_retired d empty shown station follow queue]
  · rintro s u tag n k m v b r rest takes rfl
    rw [exec_sendUrgent_of_takes takes]
    refine ⟨fun range => done_read 28 (State.sendUrgent_badIndex range), fun low high bad => ?_, ?_⟩
    · obtain ⟨i, rfl⟩ := Nat.exists_eq_add_of_le' low
      exact done_read 28 (State.sendUrgent_badRecord ⟨i, high⟩ (urgentDirection?_outOfRange bad))
    · rintro p d rfl rfl rfl template rfl visit rfl rfl
      have read := urgentDirection?_of_fields d template visit
      exact done_answer 28 (State.sendUrgent_placed p read) (State.placeUrgent_requests p d _)

end Sys2Proof.Machine
end

section
/-! Proofs: the arrival period that TIME_SET derives anew, and the requests that set the gate clock, read the counters, and
hold and resume the reports. -/

namespace Sys2Proof.Machine

open Sys2Proof

/-! ### The highest period whose window contains a time (R70) -/

theorem Window.contains_iff {w : Window} {t : Nat} : w.contains t = true ↔ w.start ≤ t ∧ t < w.start + w.length := by
  simp [Window.contains]

/-- A fold that merges each element's number, where it has one, into the highest so far ends with the highest of all. -/
theorem foldl_merge_eq_max? {α : Type} {f : Option Nat → α → Option Nat} {g : α → Option Nat}
    (merges : ∀ best x, f best x = best.merge max (g x)) (l : List α) (best : Option Nat) :
    l.foldl f best = (best.toList ++ l.filterMap g).max? := by
  induction l generalizing best with
  | nil => cases best <;> rfl
  | cons x l ih =>
    rw [List.foldl_cons, ih, merges]
    cases number : g x with
    | none => rw [List.filterMap_cons_none number, Option.merge_none_right]
    | some n =>
      rw [List.filterMap_cons_some number]
      cases best <;> rfl

/-- The period of a slot whose window contains the time t. -/
def periodAt (t : Nat) (slot : Option Window) : Option Nat :=
  (slot.filter (fun w => w.contains t)).map (fun w => w.period)

theorem periodAt_of_contains {t : Nat} {w : Window} (inside : w.contains t = true) :
    periodAt t (some w) = some w.period := by
  simp [periodAt, inside]

theorem periodAt_of_not_contains {t : Nat} {w : Window} (outside : ¬ w.contains t = true) :
    periodAt t (some w) = none := by
  simp [periodAt, outside]

theorem periodAt_eq_some {t p : Nat} {slot : Option Window} :
    periodAt t slot = some p ↔ ∃ w, slot = some w ∧ w.contains t = true ∧ w.period = p := by
  simp only [periodAt, Option.map_eq_some_iff, Option.filter_eq_some_iff, and_assoc]

namespace Ring

/-- The periods of the windows that contain the time t. -/
def periodsAt (r : Ring) (t : Nat) : List Nat := r.slots.toList.filterMap (periodAt t)

theorem highestContaining_eq_max? (r : Ring) (t : Nat) : r.highestContaining t = (r.periodsAt t).max? := by
  refine foldl_merge_eq_max? (fun best slot => ?_) r.slots.toList none
  cases slot with
  | none => exact Option.merge_none_right.symm
  | some w =>
    by_cases inside : w.contains t = true
    · rw [periodAt_of_contains inside]
      cases best <;> simp only [inside] <;> rfl
    · rw [periodAt_of_not_contains inside, Option.merge_none_right]
      exact if_neg inside

variable {r : Ring} {t p : Nat}

theorem mem_periodsAt :
    p ∈ r.periodsAt t ↔ ∃ (i : Fin 96) (w : Window), r.slots[i] = some w ∧ w.contains t = true ∧ w.period = p := by
  simp only [periodsAt, List.mem_filterMap, periodAt_eq_some, Vector.mem_toList_iff, Vector.mem_iff_getElem]
  constructor
  · rintro ⟨_, ⟨i, below, held⟩, w, rfl, inside, period⟩
    exact ⟨⟨i, below⟩, w, held, inside, period⟩
  · rintro ⟨i, w, held, inside, period⟩
    exact ⟨some w, ⟨i.val, i.isLt, held⟩, w, rfl, inside, period⟩

theorem highestContaining_eq_none
    (outside : ∀ (i : Fin 96) (w : Window), r.slots[i] = some w → ¬ (w.start ≤ t ∧ t < w.start + w.length)) :
    r.highestContaining t = none := by
  rw [highestContaining_eq_max?, List.max?_eq_none_iff, List.eq_nil_iff_forall_not_mem]
  intro p listed
  obtain ⟨i, w, held, inside, -⟩ := mem_periodsAt.mp listed
  exact outside i w held (Window.contains_iff.mp inside)

theorem highestContaining_eq_some {i : Fin 96} {w : Window} (held : r.slots[i] = some w)
    (inside : w.start ≤ t ∧ t < w.start + w.length)
    (highest : ∀ (j : Fin 96) (x : Window), r.slots[j] = some x → x.start ≤ t → t < x.start + x.length →
      x.period ≤ w.period) :
    r.highestContaining t = some w.period := by
  rw [highestContaining_eq_max?, List.max?_eq_some_iff]
  refine ⟨mem_periodsAt.mpr ⟨i, w, held, Window.contains_iff.mpr inside, rfl⟩, fun p listed => ?_⟩
  obtain ⟨j, x, itsSlot, itsTime, rfl⟩ := mem_periodsAt.mp listed
  obtain ⟨started, lasts⟩ := Window.contains_iff.mp itsTime
  exact highest j x itsSlot started lasts

theorem rederive_of_none (absent : r.highestContaining t = none) : r.rederive t = { r with gap := true } := by
  simp only [rederive, absent]

theorem rederive_of_some (found : r.highestContaining t = some p) :
    r.rederive t = { r with arrival := p, gap := false } := by
  simp only [rederive, found]

theorem rederive_slots (r : Ring) (t : Nat) : (r.rederive t).slots = r.slots := by
  unfold rederive
  split <;> rfl

end Ring

/-! ### TIME_SET, COUNTERS_READ, REPORT_HOLD and REPORT_RESUME (R169, R173, R176) -/

theorem State.clearCounters_laneCounters (s : State) (l : Lane) : s.clearCounters.mgmt.laneCounters[l] = { } :=
  Vector.getElem_replicate l.isLt

section Taken

variable {s : State} {tag v : Nat} {clear : Bool} {rest : List Request} {a : Answer}

/-- An answer OK that turns the report hold goes out with the hold turned and the numbers of reports that wait. -/
theorem done_hold (kind : Nat) {x : Bool}
    (effect : a = granted ((s.taken rest).setHold x) (s.taken rest).reportNumbers) :
    done (answer tag kind a) = .next (State.settle (State.answeredWith rest
      ⟨tag, kind, .ok, .reports s.mgmt.reportQueue.length s.mgmt.reportWait.length⟩
      { s with mgmt := { s.mgmt with hold := x } })) :=
  (done_answer kind effect rfl).trans rfl

theorem exec_timeSet_of_takes (h : s.takes tag (.timeSet v) rest) :
    exec .timeSet s = done (answer tag 21 ((s.taken rest).timeSet v)) := by
  show execTimeSet s = _
  rw [execTimeSet, State.takes_next h]
  rfl

theorem exec_countersRead_of_takes (h : s.takes tag (.countersRead clear) rest) :
    exec .countersRead s = done (answer tag 32 ((s.taken rest).countersRead clear)) := by
  show execCountersRead s = _
  rw [execCountersRead, State.takes_next h]
  rfl

theorem exec_reportHold_of_takes (h : s.takes tag .reportHold rest) :
    exec .reportHold s = done (answer tag 33 (s.taken rest).reportHold) := by
  show execReportHold s = _
  rw [execReportHold, State.takes_next h]
  rfl

theorem exec_reportResume_of_takes (h : s.takes tag .reportResume rest) :
    exec .reportResume s = done (answer tag 34 (s.taken rest).reportResume) := by
  show execReportResume s = _
  rw [execReportResume, State.takes_next h]
  rfl

end Taken

/-- Settles O45: the ring is `Ring.rederive` at the new time, read through the highest period whose window contains it;
the counters and the hold by the request's flag and by the hold as it stands. -/
theorem timeCountersAndReportHold : Obligations.TimeCountersAndReportHold := by
  unfold Obligations.TimeCountersAndReportHold
  refine ⟨fun s tag v rest takes => ?_, fun s tag rest =>
    ⟨fun takes => ?_, fun takes => ?_, fun takes => ?_, fun takes => ?_⟩⟩
  · refine ⟨s.ring.rederive v, ?_, s.ring.rederive_slots v, fun outside => ?_, fun i w held started lasts highest => ?_⟩
    · exact (exec_timeSet_of_takes takes).trans ((done_answer 21 rfl rfl).trans rfl)
    · rw [Ring.rederive_of_none (Ring.highestContaining_eq_none outside)]
      exact ⟨rfl, rfl⟩
    · rw [Ring.rederive_of_some (Ring.highestContaining_eq_some held ⟨started, lasts⟩ highest)]
      exact ⟨rfl, rfl⟩
  · exact (exec_countersRead_of_takes takes).trans (done_read 32 rfl)
  · refine ⟨s.clearCounters.mgmt.laneCounters, s.clearCounters.mgmt.partCounters, ?_, fun l k => ?_,
      PartCounters.get_cleared⟩
    · exact (exec_countersRead_of_takes takes).trans ((done_answer 32 rfl rfl).trans rfl)
    · rw [s.clearCounters_laneCounters l]
      exact LaneCounters.get_cleared k
  · rw [exec_reportHold_of_takes takes]
    exact ⟨fun off => done_hold 33 (if_neg (ne_true_of_eq_false off)), fun held => done_read 33 (if_pos held)⟩
  · rw [exec_reportResume_of_takes takes]
    exact ⟨fun held => done_hold 34 (if_pos held), fun off => done_read 34 (if_neg (ne_true_of_eq_false off))⟩

end Sys2Proof.Machine
end
